-- ==== Sys2Proof/Word.lean ====
section
/-! DEFINITION. The plain data types of the wire: bits, bytes, 3-bit sequence numbers, byte strings
(00_scope.md R10, R11). -/

namespace Sys2Proof

/-- An 8-bit byte, the unit of the wire (30_encoding.md R80). -/
abbrev Byte := BitVec 8

/-- A 1-bit field of a control byte (30_encoding.md R84 to R86). -/
abbrev Bit := BitVec 1

/-- A 3-bit sequence number. It is also a transmit slot's index (10_state.md R29), and its addition
and subtraction are the arithmetic modulo 8 of 30_encoding.md R91. -/
abbrev SeqNum := BitVec 3

/-- A byte string: a finite list of bytes (00_scope.md R11). -/
abbrev Bytes := List Byte

end Sys2Proof
end

