-- ==== Sys2Proof/Config.lean ====
section
/-! DEFINITION. What an implementation of the block fixes: the protocol constants (00_scope.md R5 to R7),
the reserved wire bytes (30_encoding.md R81), the reset codes (R102), and the six open parameters of
00_scope.md R8, whose values the model leaves free. -/

namespace Sys2Proof.Config

/-! ### Fixed constants (00_scope.md R5, R6, R7; times in whole milliseconds) -/

/-- TX_K, the in-flight window (R5). -/
def txK : Nat := 5

/-- ACK_TIMEOUTS, the transmission attempts per DATA frame (R5). -/
def ackTimeouts : Nat := 4

/-- T_MIN (R5, R6). -/
def tMin : Nat := 400

/-- T_MAX (R5, R6). -/
def tMax : Nat := 3200

/-- T_INIT (R5, R6). -/
def tInit : Nat := 1600

/-- T_REMOTE_NOTRDY (R5, R6). -/
def tRemoteNotRdy : Nat := 1000

/-- T_RESET, the deadline of the reset handshake (R7). -/
def tReset : Nat := 5000

/-- The value at which SLOT_ELAPSED saturates (10_state.md R34). -/
def elapsedMax : Nat := 0xFFFF

/-- The ASH protocol version, the only one a valid RSTACK carries (00_scope.md R3, 30_encoding.md R93). -/
def ashVersion : Byte := 2

/-! ### The reserved wire bytes (30_encoding.md R81) -/

/-- FLAG, the frame terminator. -/
def flagByte : Byte := 0x7E

/-- ESCAPE, the escape prefix. -/
def escapeByte : Byte := 0x7D

/-- XON, a flow-control hint. -/
def xonByte : Byte := 0x11

/-- XOFF, a flow-control hint. -/
def xoffByte : Byte := 0x13

/-- SUBSTITUTE, which marks a corrupt frame. -/
def substituteByte : Byte := 0x18

/-- CANCEL, which discards the partial frame. -/
def cancelByte : Byte := 0x1A

/-! ### Reset codes (30_encoding.md R102). The block compares only `resetSoftware`. -/

/-- UNKNOWN. -/
def resetUnknown : Byte := 0x00

/-- EXTERNAL. -/
def resetExternal : Byte := 0x01

/-- POWER_ON. -/
def resetPowerOn : Byte := 0x02

/-- WATCHDOG. -/
def resetWatchdog : Byte := 0x03

/-- ASSERT. -/
def resetAssert : Byte := 0x06

/-- BOOTLOADER. -/
def resetBootloader : Byte := 0x09

/-- SOFTWARE. -/
def resetSoftware : Byte := 0x0B

/-- EXCEEDED_MAX_ACK_TIMEOUTS. The block never produces it (60_exceptions.md R257). -/
def resetExceededMaxAckTimeouts : Byte := 0x51

/-- UNKNOWN_EM3XX_ERROR. -/
def resetUnknownEm3xxError : Byte := 0x80

/-! ### The open parameters (00_scope.md R8) -/

/-- The values of ACK_SCOPE (43_tx_engine.md R213). -/
inductive AckScope where
  /-- Only the slot named by `ack_num - 1` completes (the reference value). -/
  | lastOnly
  /-- Every busy slot allocated no later than that slot completes too, oldest first. -/
  | cumulative
deriving DecidableEq, Repr, Inhabited

/-- The six open parameters of 00_scope.md R8. They are fixed when the block is built and cannot change
at run time (70_reset_and_hazards.md R293), so they are configuration and not state. -/
structure Params where
  /-- ACK_SCOPE (43_tx_engine.md R213). -/
  ackScope : AckScope
  /-- REPLAY_DELIVERS (42_frame_receive.md R170). -/
  replayDelivers : Bool
  /-- RETX_NEW_ACCEPT (42_frame_receive.md R169). -/
  retxNewAccept : Bool
  /-- NRDY_PAUSE (44_link_control.md R247). -/
  nrdyPause : Bool
  /-- RX_BUF_MAX less its lower bound 9, or `none` when the buffer is unbounded. Held so, every value of
  the field lies in the domain R8 gives (41_rx_pipeline.md R148). -/
  rxBufSpare : Option Nat
  /-- MAX_PAYLOAD, or `none` when unbounded (43_tx_engine.md R201). -/
  maxPayload : Option Nat
deriving DecidableEq, Repr, Inhabited

/-- The least RX_BUF_MAX: the longest stuffed RSTACK or ERROR frame (41_rx_pipeline.md R148). -/
def rxBufLeast : Nat := 9

/-- RX_BUF_MAX as R8 names it: a number of at least 9, or `none` for unbounded. -/
def Params.rxBufMax (p : Params) : Option Nat := p.rxBufSpare.map (rxBufLeast + ·)

/-- The parameters of THIS block: an opaque constant, so no proof can see a value, and what is proved of
`exec` and `step` holds for every value of the six parameters (00_scope.md R8). Log entry 3. -/
opaque block : Params

/-- The reference values of 00_scope.md R8, the source's literal reading. The worked vectors of
95_test_vectors.md assume them. `exec` does not use them. -/
def reference : Params where
  ackScope := .lastOnly
  replayDelivers := true
  retxNewAccept := false
  nrdyPause := false
  rxBufSpare := none
  maxPayload := none

end Sys2Proof.Config
end

