-- ==== Sys2Proof/Machine/Codec.lean ====
section
/-! DEFINITION. The byte-level functions of the codec family (40_codec.md): the LFSR scrambler, the CRC-16
engine, byte stuffing. They are pure: none reads or writes a register. -/

namespace Sys2Proof

/-! ### Byte classes (30_encoding.md R81) -/

/-- Membership in RESERVED, the six bytes that trigger byte stuffing (R81). -/
def isReserved (b : Byte) : Bool :=
  b == Config.flagByte || b == Config.escapeByte || b == Config.xonByte || b == Config.xoffByte
    || b == Config.substituteByte || b == Config.cancelByte

/-- The reserved bytes that never stand in a stuffed segment: RESERVED without ESCAPE
(10_state.md R38, 40_codec.md R123). -/
def isStray (b : Byte) : Bool := isReserved b && b != Config.escapeByte

/-! ### LFSR and pseudo-random sequence -/

/-- LFSR_STEP (40_codec.md R110): shift right, and feed back 0xB8 when the bit shifted out is 1. -/
def lfsrStep (r : Byte) : Byte := (r >>> 1) ^^^ (if r.getLsbD 0 then 0xB8 else 0x00)

/-- PRBS[i] (R111): the LFSR state before the i-th shift, from the seed 0x42. -/
def prbs : Nat → Byte
  | 0 => 0x42
  | i + 1 => lfsrStep (prbs i)

/-- SCRAMBLE (R115): byte k is XORed with PRBS[k], from PRBS[0] for every payload (R112). -/
def scramble (P : Bytes) : Bytes := P.mapIdx fun k b => b ^^^ prbs k

/-- The scrambler as R112 describes the hardware: an LFSR register loaded with r, stepped once a byte. -/
def lfsrMask (r : Byte) : Bytes → Bytes
  | [] => []
  | b :: bs => (b ^^^ r) :: lfsrMask (lfsrStep r) bs

/-! ### CRC-16 -/

/-- One bit step of CRC16 (R117): shift left, and XOR the polynomial 0x1021 when the bit shifted out is 1. -/
def crcBit (c : BitVec 16) : BitVec 16 := if c.getLsbD 15 then (c <<< 1) ^^^ 0x1021 else c <<< 1

/-- One byte step of CRC16 (R117): the byte enters at the top, then eight bit steps. -/
def crcByte (c : BitVec 16) (b : Byte) : BitVec 16 := Nat.repeat crcBit 8 (c ^^^ (b.setWidth 16 <<< 8))

/-- CRC16 (R117): initial value 0xFFFF, output not reflected, no final XOR. -/
def crc16 (B : Bytes) : BitVec 16 := B.foldl crcByte 0xFFFF

/-- The CRC's two bytes in wire order, high byte first (R118, 20_memory.md R62). -/
def crcBytes (c : BitVec 16) : Bytes := [c.extractLsb' 8 8, c.extractLsb' 0 8]

/-- CRC_OK (R119): the CRC of all but the last two bytes is the last two, high byte first. -/
def crcOk (U : Bytes) : Bool := crcBytes (crc16 (U.take (U.length - 2))) == U.drop (U.length - 2)

/-! ### Byte stuffing -/

/-- The value XORed onto an escaped byte (R122). -/
def escapeXor : Byte := 0x20

/-- The stuffed form of one byte (R122, 30_encoding.md R97). -/
def stuffByte (b : Byte) : Bytes :=
  if isReserved b then [Config.escapeByte, b ^^^ escapeXor] else [b]

/-- STUFF (R122). -/
def stuff (B : Bytes) : Bytes := B.flatMap stuffByte

/-- UNSTUFF (R123), `none` for the failure BAD_ESCAPE: the byte after ESCAPE is always consumed, its XOR
with 0x20 must be in RESERVED, and ESCAPE may not end the segment. -/
def unstuff : Bytes → Option Bytes
  | [] => some []
  | [b] => if b = Config.escapeByte then none else some [b]
  | b :: v :: rest =>
    if b = Config.escapeByte then
      if isReserved (v ^^^ escapeXor) then (unstuff rest).map ((v ^^^ escapeXor) :: ·) else none
    else (unstuff (v :: rest)).map (b :: ·)

end Sys2Proof
end

