-- ==== Sys2Proof/Syntax.lean ====
section
/-! DEFINITION. The instructions: one constructor per row of spec/opcode_table.json. The rows have three
layers (30_encoding.md, preamble): six frame kinds, six reserved wire bytes, six input events. -/

namespace Sys2Proof

/-- One instruction of the block. A frame constructor holds the parsed fields of 40_codec.md R126 (the
payload unscrambled), a wire-byte constructor stands for the arrival of that byte, an event constructor
for the input event of that name. -/
inductive Instr where
  /-- DATA: frm_num, re_tx, ack_num and the unscrambled payload (30_encoding.md R84, R90). -/
  | data (frm : SeqNum) (re : Bit) (ackNum : SeqNum) (payload : Bytes)
  /-- ACK: reserved, ncp_not_ready, ack_num (R85). -/
  | ack (res nrdy : Bit) (ackNum : SeqNum)
  /-- NAK: reserved, ncp_not_ready, ack_num (R86). -/
  | nak (res nrdy : Bit) (ackNum : SeqNum)
  /-- RST, no field (R87). -/
  | rst
  /-- RSTACK: version and reset_code (R88). -/
  | rstack (version code : Byte)
  /-- ERROR: version and reset_code (R89). -/
  | error (version code : Byte)
  /-- The byte FLAG, 0x7E (R81). -/
  | flag
  /-- The byte ESCAPE, 0x7D (R81). The byte it escapes is the next RX_BYTE event. -/
  | escape
  /-- The byte XON, 0x11 (R81). -/
  | xon
  /-- The byte XOFF, 0x13 (R81). -/
  | xoff
  /-- The byte SUBSTITUTE, 0x18 (R81). -/
  | substitute
  /-- The byte CANCEL, 0x1A (R81). -/
  | cancelByte
  /-- RX_BYTE(b): one byte arrived from the serial endpoint (41_rx_pipeline.md R140). -/
  | rxByte (b : Byte)
  /-- SEND(P): the host asks for payload P to be sent (43_tx_engine.md R200). -/
  | send (payload : Bytes)
  /-- CANCEL(f): the host abandons the request in slot f (R216). -/
  | cancel (f : SeqNum)
  /-- RESET_REQ: the host asks for the reset handshake (44_link_control.md R240). -/
  | resetReq
  /-- TICK: one millisecond has passed (60_exceptions.md R270). -/
  | tick
  /-- CONN_LOST: the serial endpoint reports the connection lost (44_link_control.md R245). -/
  | connLost
deriving DecidableEq, Repr

end Sys2Proof
end

