-- ==== Sys2Proof/WellFormed.lean ====
section
/-! DEFINITION. Which instructions are well formed (40_codec.md R126). -/

namespace Sys2Proof

/-- A frame is well formed when every field lies in its range, which the types of the fields carry, and,
for RSTACK, its version is 2 (40_codec.md R126). The wire bytes and the input events have no further
constraint. -/
def Instr.wf : Instr → Bool
  | .rstack version _ => version == Config.ashVersion
  | .data _ _ _ _ => true
  | .ack _ _ _ => true
  | .nak _ _ _ => true
  | .rst => true
  | .error _ _ => true
  | .flag => true
  | .escape => true
  | .xon => true
  | .xoff => true
  | .substitute => true
  | .cancelByte => true
  | .rxByte _ => true
  | .send _ => true
  | .cancel _ => true
  | .resetReq => true
  | .tick => true
  | .connLost => true

end Sys2Proof
end

