-- ==== Sys2Proof/Machine/Frame.lean ====
section
/-! DEFINITION. Frame values, their control bytes, and their serialisation (30_encoding.md R80 to R92,
40_codec.md R126 to R128). -/

namespace Sys2Proof

/-- A frame value (40_codec.md R126). -/
inductive Frame where
  /-- DATA with its unscrambled payload. -/
  | data (frm : SeqNum) (re : Bit) (ackNum : SeqNum) (payload : Bytes)
  /-- ACK. -/
  | ack (res nrdy : Bit) (ackNum : SeqNum)
  /-- NAK. -/
  | nak (res nrdy : Bit) (ackNum : SeqNum)
  /-- RST. -/
  | rst
  /-- RSTACK. -/
  | rstack (version code : Byte)
  /-- ERROR. -/
  | error (version code : Byte)
deriving DecidableEq, Repr

/-- The instruction that a parsed frame is. -/
def Frame.toInstr : Frame → Instr
  | .data frm re ackNum payload => .data frm re ackNum payload
  | .ack res nrdy ackNum => .ack res nrdy ackNum
  | .nak res nrdy ackNum => .nak res nrdy ackNum
  | .rst => .rst
  | .rstack version code => .rstack version code
  | .error version code => .error version code

/-- A frame value is well formed when its instruction is (40_codec.md R126). -/
def Frame.wf (F : Frame) : Bool := F.toInstr.wf

/-! ### Control bytes (30_encoding.md R92) -/

/-- ctl_DATA: frm_num in bits 6..4, re_tx in bit 3, ack_num in bits 2..0 (R84). Log entry 5. -/
def ctlData (frm : SeqNum) (re : Bit) (ackNum : SeqNum) : Byte :=
  (frm.setWidth 8 <<< 4) ||| (re.setWidth 8 <<< 3) ||| ackNum.setWidth 8

/-- ctl_ACK: reserved in bit 4, ncp_not_ready in bit 3, ack_num in bits 2..0 (R85). Log entry 5. -/
def ctlAck (ackNum : SeqNum) (nrdy res : Bit) : Byte :=
  0x80 ||| (res.setWidth 8 <<< 4) ||| (nrdy.setWidth 8 <<< 3) ||| ackNum.setWidth 8

/-- ctl_NAK: the fields of ctl_ACK under the tag 0b101 (R86). Log entry 5. -/
def ctlNak (ackNum : SeqNum) (nrdy res : Bit) : Byte :=
  0xA0 ||| (res.setWidth 8 <<< 4) ||| (nrdy.setWidth 8 <<< 3) ||| ackNum.setWidth 8

/-- ctl_RST (R87). -/
def ctlRst : Byte := 0xC0

/-- ctl_RSTACK (R88). -/
def ctlRstack : Byte := 0xC1

/-- ctl_ERROR (R89). -/
def ctlError : Byte := 0xC2

/-! ### Serialisation -/

/-- The control byte and the body as they stand on the wire before stuffing: only a DATA payload is
scrambled (40_codec.md R116, R127). -/
def Frame.content : Frame → Bytes
  | .data frm re ackNum payload => ctlData frm re ackNum :: scramble payload
  | .ack res nrdy ackNum => [ctlAck ackNum nrdy res]
  | .nak res nrdy ackNum => [ctlNak ackNum nrdy res]
  | .rst => [ctlRst]
  | .rstack version code => [ctlRstack, version, code]
  | .error version code => [ctlError, version, code]

/-- The content with its CRC after it, high byte first (30_encoding.md R103, 40_codec.md R118). -/
def withCrc (content : Bytes) : Bytes := content ++ crcBytes (crc16 content)

/-- FRAME_BYTES (40_codec.md R127). -/
def frameBytes (F : Frame) : Bytes := withCrc F.content

/-- WIRE (R128): the stuffed frame and its terminating FLAG, no FLAG before it. -/
def wire (F : Frame) : Bytes := stuff (frameBytes F) ++ [Config.flagByte]

end Sys2Proof
end

