-- ==== Sys2Proof/Decode.lean ====
section
/-! DEFINITION. The decoder of the wire: which kind a control byte picks (30_encoding.md R82), its fields,
PARSE (40_codec.md R130), the byte layer (30_encoding.md R81), and after it the encoder, written from the
same tables. -/

namespace Sys2Proof

/-- Why a segment is dropped: the failures of PARSE, in the order of its checks (40_codec.md R130). -/
inductive DropReason where
  /-- ESCAPE ends the segment, or the byte after it does not decode into RESERVED (R123). -/
  | badEscape
  /-- Fewer than 3 bytes after unstuffing (30_encoding.md R99). -/
  | shortFrame
  /-- The CRC check fails (40_codec.md R119). -/
  | crcError
  /-- The control byte is in 0xC3 to 0xFF (30_encoding.md R95). -/
  | unknownControl
  /-- The body length does not fit the kind (R94). -/
  | badLength
  /-- An RSTACK whose version is not 2 (R93). -/
  | badVersion
deriving DecidableEq, Repr

/-! ### Kinds -/

/-- The six frame kinds. -/
inductive FrameKind where
  | data | ack | nak | rst | rstack | error
deriving DecidableEq, Repr

/-- A row of the kind table: the kind of a control byte `c` with `c & mask = value`. -/
structure KindRow where
  kind : FrameKind
  mask : Byte
  value : Byte
deriving DecidableEq, Repr

/-- The table of 30_encoding.md R82, in its order. -/
def kindTable : List KindRow :=
  [⟨.data, 0x80, 0x00⟩, ⟨.ack, 0xE0, 0x80⟩, ⟨.nak, 0xE0, 0xA0⟩,
   ⟨.rst, 0xFF, 0xC0⟩, ⟨.rstack, 0xFF, 0xC1⟩, ⟨.error, 0xFF, 0xC2⟩]

/-- Whether the control byte matches the row. -/
def KindRow.hits (r : KindRow) (c : Byte) : Bool := c &&& r.mask == r.value

/-- The kind a control byte picks: the first row that matches, `none` when no row does (R82, R95). -/
def kindOf (c : Byte) : Option FrameKind := (kindTable.find? (·.hits c)).map (·.kind)

/-! ### Fields of the control byte (30_encoding.md R84 to R86, R91) -/

/-- frm_num: bits 6..4 of a DATA control byte. -/
def frmField (c : Byte) : SeqNum := c.extractLsb' 4 3

/-- re_tx: bit 3 of a DATA control byte. -/
def reField (c : Byte) : Bit := c.extractLsb' 3 1

/-- ack_num: bits 2..0 of a DATA, ACK or NAK control byte. -/
def ackField (c : Byte) : SeqNum := c.extractLsb' 0 3

/-- ncp_not_ready: bit 3 of an ACK or NAK control byte. -/
def nrdyField (c : Byte) : Bit := c.extractLsb' 3 1

/-- reserved: bit 4 of an ACK or NAK control byte. -/
def resField (c : Byte) : Bit := c.extractLsb' 4 1

/-! ### Frames -/

/-- The frame that a control byte and a body make: its kind, then its body length (the cases of
40_codec.md R130, the RSTACK version left to `parse`). -/
def decodeFrame (c : Byte) (body : Bytes) : Except DropReason Frame :=
  match kindOf c with
  | none => .error .unknownControl
  | some .data => .ok (.data (frmField c) (reField c) (ackField c) (scramble body))
  | some .ack => if body = [] then .ok (.ack (resField c) (nrdyField c) (ackField c)) else .error .badLength
  | some .nak => if body = [] then .ok (.nak (resField c) (nrdyField c) (ackField c)) else .error .badLength
  | some .rst => if body = [] then .ok .rst else .error .badLength
  | some .rstack =>
    match body with
    | [version, code] => .ok (.rstack version code)
    | _ => .error .badLength
  | some .error =>
    match body with
    | [version, code] => .ok (.error version code)
    | _ => .error .badLength

/-- The last check of PARSE: an RSTACK's version must be 2 (40_codec.md R130, 30_encoding.md R93). -/
def checkVersion (F : Frame) : Except DropReason Frame := if F.wf then .ok F else .error .badVersion

/-- The checks of PARSE on an unstuffed segment: length, CRC, kind, body (40_codec.md R130). -/
def parseUnstuffed (U : Bytes) : Except DropReason Frame :=
  if U.length < 3 then .error .shortFrame
  else if crcOk U then
    match U with
    | [] => .error .shortFrame
    | c :: rest => (decodeFrame c (rest.take (rest.length - 2))).bind checkVersion
  else .error .crcError

/-- PARSE (40_codec.md R130) of a segment, still stuffed. The first check that fails names the drop. -/
def parse (segment : Bytes) : Except DropReason Frame :=
  match unstuff segment with
  | none => .error .badEscape
  | some U => parseUnstuffed U

/-! ### The byte layer -/

/-- The instruction that the arrival of byte b is: its own row for a reserved byte (30_encoding.md R81),
RX_BYTE(b) for any other (41_rx_pipeline.md R147). -/
def decodeByte (b : Byte) : Instr :=
  if b = Config.flagByte then .flag
  else if b = Config.escapeByte then .escape
  else if b = Config.xonByte then .xon
  else if b = Config.xoffByte then .xoff
  else if b = Config.substituteByte then .substitute
  else if b = Config.cancelByte then .cancelByte
  else .rxByte b

/-! ### Decoding one item of the wire -/

/-- Why a byte string is not one instruction of the wire. -/
inductive DecodeError where
  /-- There is no byte. -/
  | noByte
  /-- More than one byte, the last not FLAG: no frame ends there (30_encoding.md R80). -/
  | unterminated
  /-- FLAG, CANCEL, SUBSTITUTE, XON or XOFF stands inside the segment (40_codec.md R123, R125). -/
  | strayByte
  /-- PARSE drops the segment. -/
  | dropped (reason : DropReason)
deriving DecidableEq, Repr

/-- The instruction that a byte string of the wire is, whole: one byte is its byte-layer instruction, a
longer string is a frame up to its FLAG (30_encoding.md R98). Total: what is neither is refused by name. -/
def decode (bytes : Bytes) : Except DecodeError Instr :=
  match bytes with
  | [] => .error .noByte
  | [b] => .ok (decodeByte b)
  | _ =>
    if bytes.getLast? = some Config.flagByte then
      if bytes.dropLast.any isStray then .error .strayByte
      else
        match parse bytes.dropLast with
        | .error reason => .error (.dropped reason)
        | .ok F => .ok F.toInstr
    else .error .unterminated

/-! ### The encoder -/

/-- The bytes of an instruction on the wire: a frame's `wire` form (40_codec.md R128), a wire byte's own
byte, `none` for the input events that have no wire code (30_encoding.md, preamble). -/
def encode : Instr → Option Bytes
  | .data frm re ackNum payload => some (wire (.data frm re ackNum payload))
  | .ack res nrdy ackNum => some (wire (.ack res nrdy ackNum))
  | .nak res nrdy ackNum => some (wire (.nak res nrdy ackNum))
  | .rst => some (wire .rst)
  | .rstack version code => some (wire (.rstack version code))
  | .error version code => some (wire (.error version code))
  | .flag => some [Config.flagByte]
  | .escape => some [Config.escapeByte]
  | .xon => some [Config.xonByte]
  | .xoff => some [Config.xoffByte]
  | .substitute => some [Config.substituteByte]
  | .cancelByte => some [Config.cancelByte]
  | .rxByte b => some [b]
  | .send _ => none
  | .cancel _ => none
  | .resetReq => none
  | .tick => none
  | .connLost => none

/-- The byte-layer instructions in the form `decodeByte` gives them: a reserved byte is its own row, so
RX_BYTE(b) stands for the other bytes only. Every other instruction is in that form. -/
def Instr.canonical : Instr → Bool
  | .data _ _ _ _ => true
  | .ack _ _ _ => true
  | .nak _ _ _ => true
  | .rst => true
  | .rstack _ _ => true
  | .error _ _ => true
  | .flag => true
  | .escape => true
  | .xon => true
  | .xoff => true
  | .substitute => true
  | .cancelByte => true
  | .rxByte b => !isReserved b
  | .send _ => true
  | .cancel _ => true
  | .resetReq => true
  | .tick => true
  | .connLost => true

/-! ### A word of the opcode table -/

/-- The low n bytes of a word, the least significant first (a later byte's bits count on from the first's). -/
def wordBytes : Nat → Nat → Bytes
  | 0, _ => []
  | n + 1, w => BitVec.ofNat 8 w :: wordBytes n (w / 256)

/-- The body bytes that the table gives no bits and that the kind must have: zeros up to the two bytes of
an RSTACK or an ERROR (30_encoding.md R88, R89). -/
def padBody (c : Byte) (body : Bytes) : Bytes :=
  if kindOf c = some .rstack ∨ kindOf c = some .error then body ++ List.replicate (2 - body.length) 0 else body

/-- The instruction the decoder reads from a word of the opcode table. The byte layer comes first, as on
the wire: a first byte in RESERVED is that byte's own row; any other is a control byte, and the bytes
after it are the frame's body (log entry 4). -/
def decodeTableWord (nbits w : Nat) : Option Instr :=
  match wordBytes (nbits / 8) w with
  | [] => none
  | c :: body =>
    if isReserved c then some (decodeByte c)
    else
      match decodeFrame c (padBody c body) with
      | .error _ => none
      | .ok F => some F.toInstr

end Sys2Proof
end

