-- ==== Sys2Proof/Machine/State.lean ====
section
/-! DEFINITION. The state of the block (10_state.md), its outputs (60_exceptions.md R256 to R259), the input
events (R272, R273), and the power-on state (10_state.md R46). -/

namespace Sys2Proof.Machine

/-- NCP_STATE (10_state.md R22). -/
inductive NcpState where
  | connected
  | failed
deriving DecidableEq, Repr

/-- SLOT_STATE (R30). -/
inductive SlotState where
  /-- No request holds the slot. -/
  | free
  /-- A request holds it and its next transmission is held back by the remote-not-ready pause. -/
  | waitTx
  /-- Its last transmission is on the wire and waits for the acknowledgement. -/
  | waitAck
deriving DecidableEq, Repr

/-- The completion status of a request (60_exceptions.md R256). -/
inductive Status where
  | ok
  | notAcked
  | ackTimeout
  | transportFailed
  | cancelled
deriving DecidableEq, Repr

/-- The reason of a SEND_REJECTED event (R256). -/
inductive RejectReason where
  | transportFailed
  | payloadTooLong
deriving DecidableEq, Repr

/-- The cause of a FAILURE event (R257). -/
inductive FailCause where
  | ackTimeout
  | ncpError (code : Byte)
  | unexpectedReset (code : Byte)
  | connectionLost
  | resetTimeout
deriving DecidableEq, Repr

/-- The upward events of UP_OUT (R259). -/
inductive UpEvent where
  | accepted (f : SeqNum)
  | sendRejected (reason : RejectReason)
  | complete (f : SeqNum) (status : Status)
  | deliver (payload : Bytes)
  | rstackRx (code : Byte)
  | resetDone (code : Byte)
  | resetFailed
  | failure (cause : FailCause)
deriving DecidableEq, Repr

/-- The diagnostics of DIAG_OUT (R258). The six drop reasons of PARSE stand under `dropped`. -/
inductive Diag where
  | dropped (reason : DropReason)
  | outOfSequence
  | unexpectedAck
  | unexpectedNak
  | unexpectedFrame
  | ignoredNotConnected
  | xon
  | xoff
  | cancelByte
  | substituteByte
  | rxOverflow
  | cancelNoSlot
deriving DecidableEq, Repr

/-- The input events (60_exceptions.md R272, R273). -/
inductive InputEvent where
  | rxByte (b : Byte)
  | send (payload : Bytes)
  | cancel (f : SeqNum)
  | resetReq
  | tick
  | connLost
deriving DecidableEq, Repr

/-- One transmit slot (10_state.md R29): SLOT_STATE (R30), SLOT_PAYLOAD (R31), SLOT_ATTEMPT (R32),
SLOT_DEADLINE (R33), SLOT_ELAPSED (R34). -/
@[ext]
structure Slot where
  state : SlotState
  payload : Bytes
  attempt : BitVec 2
  deadline : BitVec 12
  elapsed : BitVec 16
deriving DecidableEq, Repr

/-- The registers and logs of 10_state.md, and the model's own queue of offered events. -/
@[ext]
structure State where
  /-- NCP_STATE (R22). -/
  ncpState : NcpState
  /-- RESET_PENDING (R23). -/
  resetPending : Bool
  /-- RESET_TIMER, 13 bits (R24). -/
  resetTimer : BitVec 13
  /-- REMOTE_NRDY (R25). -/
  remoteNrdy : Bool
  /-- NRDY_TIMER, 10 bits (R25). -/
  nrdyTimer : BitVec 10
  /-- TX_SEQ (R26). -/
  txSeq : SeqNum
  /-- RX_SEQ (R27). -/
  rxSeq : SeqNum
  /-- T_RX_ACK, 12 bits (R28). -/
  tRxAck : BitVec 12
  /-- The eight transmit slots, indexed by frm_num (R29). -/
  slots : Vector Slot 8
  /-- RX_BUF (R38). -/
  rxBuf : Bytes
  /-- RX_DISCARD (R39). -/
  rxDiscard : Bool
  /-- WIRE_OUT (R45). -/
  wireOut : Bytes
  /-- UP_OUT (R45). -/
  upOut : List UpEvent
  /-- DIAG_OUT (R45). Log entry 8. -/
  diagOut : List Diag
  /-- The MODEL's own field, no register of the spec: the events the environment offers, the first to be
  offered at the head (00_scope.md R4). Log entry 1. -/
  input : List InputEvent
deriving DecidableEq, Repr

/-- A fault would stop the block. There is none: "No behaviour of the block is fault or stuck"
(93_implementation_defined.md), so the type has no constructor. -/
inductive Fault where
deriving DecidableEq, Repr

/-- A refusal would say that an instruction has no meaning in this model. -/
inductive Refusal where
  /-- Raised by no arm: every instruction has its meaning. Safe, were it raised: the machine would stop. -/
  | notModelled (mnemonic : String)
deriving DecidableEq, Repr

/-- A slot at power-on (R46). -/
def Slot.reset : Slot where
  state := .free
  payload := []
  attempt := 0
  deadline := 0
  elapsed := 0

/-- The power-on state (10_state.md R46, 70_reset_and_hazards.md R290). Nothing is offered yet (log entry 1). -/
def State.reset : State where
  ncpState := .failed
  resetPending := false
  resetTimer := 0
  remoteNrdy := false
  nrdyTimer := 0
  txSeq := 0
  rxSeq := 0
  tRxAck := 1600
  slots := Vector.replicate 8 Slot.reset
  rxBuf := []
  rxDiscard := false
  wireOut := []
  upOut := []
  diagOut := []
  input := []

end Sys2Proof.Machine
end

