-- ==== Sys2Proof/Machine/Operands.lean ====
section
/-! DEFINITION. The operand forms: a slot read by its number, a slot's age and the order of the slots
(10_state.md R35), the timer arithmetic on whole milliseconds (00_scope.md R10, 43_tx_engine.md R206, R208,
R210), and the numeric codes of 60_exceptions.md R256. -/

namespace Sys2Proof.Machine

/-! ### Slots -/

/-- Slot f (10_state.md R29). -/
def slotAt (s : State) (f : SeqNum) : Slot := s.slots[f.toNat]

/-- The age of slot f (R35), 1 for the number allocated last, 8 for slot TX_SEQ itself. -/
def age (txSeq f : SeqNum) : Nat := (txSeq - 1 - f).toNat + 1

/-- The slot numbers in decreasing age, oldest first (R35). -/
def oldestFirst (txSeq : SeqNum) : List SeqNum :=
  [txSeq, txSeq + 1, txSeq + 2, txSeq + 3, txSeq + 4, txSeq + 5, txSeq + 6, txSeq + 7]

/-! ### Timer arithmetic -/

/-- `clamp(x, lo, hi)` (00_scope.md R10). -/
def clamp (x lo hi : Nat) : Nat := min hi (max lo x)

/-- The value a success gives T_RX_ACK (43_tx_engine.md R210), from the measured round trip d. -/
def rttUpdate (t : BitVec 12) (d : BitVec 16) : BitVec 12 :=
  BitVec.ofNat 12 (clamp ((7 * t.toNat + 4 * d.toNat) / 8) Config.tMin Config.tMax)

/-- The value a timeout gives T_RX_ACK (R208). -/
def backoff (t : BitVec 12) : BitVec 12 := BitVec.ofNat 12 (min Config.tMax (2 * t.toNat))

/-- SLOT_ELAPSED a millisecond later, saturating at 0xFFFF (R206). -/
def elapse (e : BitVec 16) : BitVec 16 := BitVec.ofNat 16 (min Config.elapsedMax (e.toNat + 1))

/-! ### Numeric codes (60_exceptions.md R256) -/

/-- The code of a completion status. -/
def statusCode : Status → Nat
  | .ok => 0
  | .notAcked => 1
  | .ackTimeout => 2
  | .transportFailed => 3
  | .cancelled => 4

/-- The code of a SEND_REJECTED reason. -/
def rejectCode : RejectReason → Nat
  | .transportFailed => 3
  | .payloadTooLong => 5

end Sys2Proof.Machine
end

