-- ==== Sys2Proof/Machine/Flags.lean ====
section
/-! DEFINITION. The predicates the rules test. The block has no condition codes (10_state.md R41): these are
computed from the registers and stored nowhere. -/

namespace Sys2Proof.Machine

/-- `link_up` (10_state.md R41). -/
def linkUp (s : State) : Bool := s.ncpState == .connected && !s.resetPending

/-- A slot is busy when it is not FREE (R30). -/
def busy (s : State) (f : SeqNum) : Bool := (slotAt s f).state != .free

/-- The busy slots, oldest first: the order of every rule that acts on several slots (R35). -/
def busyOldestFirst (s : State) : List SeqNum := (oldestFirst s.txSeq).filter (busy s)

/-- How many slots are busy (R36). -/
def busyCount (s : State) : Nat := s.slots.toList.countP (·.state != .free)

/-- PERMITS (R36). Log entry 9. -/
def permits (s : State) : Nat := Config.txK - busyCount s

/-- Why SEND(P) is rejected, `none` when it is not (43_tx_engine.md R201): the link first, then the length. -/
def sendRejection (p : Config.Params) (P : Bytes) (s : State) : Option RejectReason :=
  if s.ncpState = .failed ∨ s.resetPending then some .transportFailed
  else
    match p.maxPayload with
    | none => none
    | some most => if most < P.length then some .payloadTooLong else none

/-- Whether a SEND that is not rejected is held (R202): no permit, or slot TX_SEQ still busy. -/
def sendHeld (s : State) : Bool := permits s == 0 || busy s s.txSeq

/-- Whether RX_BUF holds RX_BUF_MAX bytes (41_rx_pipeline.md R148). Fewer than 9 bytes never fill it,
whatever the parameter (00_scope.md R8). -/
def rxFull (p : Config.Params) (buf : Bytes) : Bool :=
  decide (Config.rxBufLeast ≤ buf.length) && p.rxBufSpare == some (buf.length - Config.rxBufLeast)

/-- Whether slot f times out at this TICK (43_tx_engine.md R207). -/
def timedOut (s : State) (f : SeqNum) : Bool :=
  (slotAt s f).state == .waitAck && decide ((slotAt s f).deadline.toNat ≤ (slotAt s f).elapsed.toNat)

/-- The class of a received DATA frame (42_frame_receive.md R163). -/
inductive DataClass where
  | accept
  | replay
  | reject
deriving DecidableEq, Repr

/-- DATA_CLASS (R163), from RX_SEQ and the frame's frm_num and re_tx. -/
def dataClass (p : Config.Params) (rxSeq frm : SeqNum) (re : Bit) : DataClass :=
  if re = 0 then
    if frm = rxSeq then .accept else .reject
  else if frm = rxSeq - 1 then .replay
  else if frm = rxSeq ∧ p.retxNewAccept then .accept
  else .reject

end Sys2Proof.Machine
end

