-- ==== Sys2Proof/Machine/Ops.lean ====
section
/-! DEFINITION. The shared operations of the rules: the output primitives (00_scope.md R13), the slots'
transmission and release (43_tx_engine.md), entering FAILED and the handshake's completion
(44_link_control.md R242, R244), acknowledgement and the not-ready pause. Each takes the parameters of
00_scope.md R8 only where its rule reads one. -/

namespace Sys2Proof.Machine

/-! ### Output primitives (00_scope.md R13) -/

/-- `emit(F)`: append the wire bytes of F to WIRE_OUT (40_codec.md R129). -/
def emit (F : Frame) (s : State) : State := { s with wireOut := s.wireOut ++ wire F }

/-- `report(E)`: append E to UP_OUT. -/
def report (e : UpEvent) (s : State) : State := { s with upOut := s.upOut ++ [e] }

/-- `diag(K)`: append K to DIAG_OUT. -/
def diag (k : Diag) (s : State) : State := { s with diagOut := s.diagOut ++ [k] }

/-- ACK(a) as the block emits it: reserved and ncp_not_ready 0 (42_frame_receive.md R171). -/
def ackFrame (a : SeqNum) : Frame := .ack 0 0 a

/-- NAK(a) as the block emits it (R171). -/
def nakFrame (a : SeqNum) : Frame := .nak 0 0 a

/-! ### Slots -/

/-- Write slot f. -/
def setSlot (f : SeqNum) (x : Slot) (s : State) : State := { s with slots := s.slots.set f.toNat x }

/-- The DATA frame of slot f's current attempt (43_tx_engine.md R204, R205): re_tx on attempts 1 to 3,
ack_num as RX_SEQ stands now. -/
def slotFrame (f : SeqNum) (s : State) : Frame :=
  .data f (if (slotAt s f).attempt = 0 then 0 else 1) s.rxSeq (slotAt s f).payload

/-- TRANSMIT_SLOT(f) (R204). -/
def transmitSlot (f : SeqNum) (s : State) : State :=
  setSlot f { slotAt s f with deadline := s.tRxAck, elapsed := 0, state := .waitAck } (emit (slotFrame f s) s)

/-- Hold slot f's transmission back in the not-ready pause (R203, R208). DESIGN CHOICE, unsafe: a slot already
sent that is held after a timeout counts its elapsed time from 0, as the pseudocode of R208 has it, where R214
would count from its last transmission. Log entry 17. -/
def holdSlot (f : SeqNum) (s : State) : State :=
  setSlot f { slotAt s f with state := .waitTx, elapsed := 0 } s

/-- Transmit slot f, or hold it while the pause lasts (R203, R208). -/
def transmitOrHold (f : SeqNum) (s : State) : State :=
  if s.remoteNrdy then holdSlot f s else transmitSlot f s

/-- RELEASE(f, S) (R215). -/
def release (f : SeqNum) (status : Status) (s : State) : State :=
  report (.complete f status) (setSlot f { slotAt s f with state := .free } s)

/-- Release every busy slot, oldest first, each with the status its number is given. -/
def releaseAll (status : SeqNum → Status) (s : State) : State :=
  (busyOldestFirst s).foldl (fun t f => release f (status f) t) s

/-- Clear the not-ready pause (44_link_control.md R240, R242, R244). -/
def clearPause (s : State) : State := { s with remoteNrdy := false, nrdyTimer := 0 }

/-! ### Entering FAILED, and the way back -/

/-- The status a request ends with when FAILED is entered (R244, 60_exceptions.md R265). -/
def failStatus (culprit : Option SeqNum) (f : SeqNum) : Status :=
  if culprit = some f then .ackTimeout else .transportFailed

/-- ENTER_FAILED(cause, culprit) (44_link_control.md R244), the analogue of a trap entry
(60_exceptions.md R263): no effect in FAILED, and otherwise every request ends, then one FAILURE. -/
def enterFailed (cause : FailCause) (culprit : Option SeqNum) (s : State) : State :=
  if s.ncpState = .failed then s
  else report (.failure cause) (clearPause (releaseAll (failStatus culprit) { s with ncpState := .failed }))

/-- HANDSHAKE_COMPLETE(code) (44_link_control.md R242), the way back from FAILED (60_exceptions.md R264). -/
def handshakeComplete (code : Byte) (s : State) : State :=
  let s := { s with resetPending := false, resetTimer := 0 }
  let s := releaseAll (fun _ => .transportFailed) s
  let s := { s with txSeq := 0, rxSeq := 0, tRxAck := BitVec.ofNat 12 Config.tInit }
  let s := clearPause s
  report (.resetDone code) { s with ncpState := .connected }

/-- End a pending handshake as failed (R243, R245). -/
def failHandshake (s : State) : State :=
  report .resetFailed { s with resetPending := false, resetTimer := 0 }

/-! ### Acknowledgement -/

/-- COMPLETE_OK(f) (43_tx_engine.md R211): the adaptive update with the slot's measured round trip, then
RELEASE(f, OK). -/
def completeOk (f : SeqNum) (s : State) : State :=
  release f .ok { s with tRxAck := rttUpdate s.tRxAck (slotAt s f).elapsed }

/-- The busy slots allocated no later than slot `acked`, oldest first (R212, R213). -/
def ackedSlots (acked : SeqNum) (s : State) : List SeqNum :=
  (busyOldestFirst s).filter fun f => decide (age s.txSeq acked ≤ age s.txSeq f)

/-- ACK_PROCESS(a) (R212). -/
def ackProcess (p : Config.Params) (a : SeqNum) (s : State) : State :=
  if busy s (a - 1) then
    match p.ackScope with
    | .lastOnly => completeOk (a - 1) s
    | .cumulative => (ackedSlots (a - 1) s).foldl (fun t f => completeOk f t) s
  else diag .unexpectedAck s

/-! ### The remote-not-ready pause -/

/-- RESUME (44_link_control.md R249): transmit every slot in WAIT_TX, oldest first. -/
def resume (s : State) : State :=
  ((oldestFirst s.txSeq).filter fun f => (slotAt s f).state == .waitTx).foldl (fun t f => transmitSlot f t) s

/-- NRDY_UPDATE(bit) (R247). -/
def nrdyUpdate (p : Config.Params) (bit : Bit) (s : State) : State :=
  if p.nrdyPause then
    if bit = 1 then { s with remoteNrdy := true, nrdyTimer := 0 }
    else if s.remoteNrdy then resume (clearPause s)
    else s
  else s

/-! ### Timeouts -/

/-- TIMEOUT(f) (43_tx_engine.md R208): the back-off first, then a retransmission or, after the fourth
timeout of the request, FAILED with f the culprit. -/
def timeout (f : SeqNum) (s : State) : State :=
  let s := { s with tRxAck := backoff s.tRxAck }
  if (slotAt s f).attempt.toNat + 1 < Config.ackTimeouts then
    transmitOrHold f (setSlot f { slotAt s f with attempt := (slotAt s f).attempt + 1 } s)
  else enterFailed .ackTimeout (some f) s

/-- The timeouts of one TICK over the listed slots, one at a time, until FAILED is entered (R209,
60_exceptions.md R270 part 5). -/
def runTimeouts : List SeqNum → State → State
  | [], s => s
  | f :: fs, s =>
    if timedOut s f then
      if (timeout f s).ncpState = .failed then timeout f s else runTimeouts fs (timeout f s)
    else runTimeouts fs s

end Sys2Proof.Machine
end

