-- ==== Sys2Proof/Machine/LinkControl.lean ====
section
/-! DEFINITION. The link control's input events: RESET_REQ and CONN_LOST (44_link_control.md), and TICK, the
only timebase (60_exceptions.md R270). -/

namespace Sys2Proof.Machine

/-- RESET_REQ (44_link_control.md R240). -/
def resetRequest (s : State) : State :=
  let s := clearPause (releaseAll (fun _ => .transportFailed) s)
  { emit .rst s with resetPending := true, resetTimer := 0 }

/-- CONN_LOST (R245). -/
def connectionLost (s : State) : State :=
  enterFailed .connectionLost none (if s.resetPending then failHandshake s else s)

/-! ### The parts of a TICK (60_exceptions.md R270) -/

/-- One slot's part 1: a busy slot counts, a FREE slot does not (43_tx_engine.md R206). -/
def elapseSlot (x : Slot) : Slot := if x.state = .free then x else { x with elapsed := elapse x.elapsed }

/-- Part 1: every busy slot's elapsed counter. -/
def tickElapsed (s : State) : State := { s with slots := s.slots.map elapseSlot }

/-- Part 2: the reset and the not-ready timers. -/
def tickTimers (s : State) : State :=
  { s with
    resetTimer := if s.resetPending then s.resetTimer + 1 else s.resetTimer
    nrdyTimer := if s.remoteNrdy then s.nrdyTimer + 1 else s.nrdyTimer }

/-- Part 3: the reset deadline (44_link_control.md R243). -/
def tickResetDeadline (s : State) : State :=
  if s.resetPending ∧ Config.tReset ≤ s.resetTimer.toNat then enterFailed .resetTimeout none (failHandshake s)
  else s

/-- Part 4: the end of the not-ready pause (R248). -/
def tickNrdyExpiry (s : State) : State :=
  if s.remoteNrdy ∧ Config.tRemoteNotRdy ≤ s.nrdyTimer.toNat then resume (clearPause s) else s

/-- Part 5: the slot timeouts, oldest first, ages taken now (43_tx_engine.md R207 to R209). -/
def tickTimeouts (s : State) : State := runTimeouts (busyOldestFirst s) s

/-- TICK (60_exceptions.md R270), its five parts in order. -/
def tickEvent (s : State) : State :=
  tickTimeouts (tickNrdyExpiry (tickResetDeadline (tickTimers (tickElapsed s))))

/-! ### The meanings -/

/-- RESET_REQ (44_link_control.md R240). -/
def execResetReq (s : State) : Host.Outcome State Fault Refusal := .next (resetRequest s)

/-- TICK (60_exceptions.md R270). -/
def execTick (s : State) : Host.Outcome State Fault Refusal := .next (tickEvent s)

/-- CONN_LOST (44_link_control.md R245). -/
def execConnLost (s : State) : Host.Outcome State Fault Refusal := .next (connectionLost s)

end Sys2Proof.Machine
end

