-- ==== Sys2Proof/Machine/FrameReceive.lean ====
section
/-! DEFINITION. The frame receive family (42_frame_receive.md): what the block does with each frame kind that
parsed. -/

namespace Sys2Proof.Machine

/-! ### The receive rules -/

/-- The ACCEPT class of RECEIVE_DATA (R164): RX_SEQ advances, the ACK carries the advanced value, the
payload goes upward. -/
def acceptData (payload : Bytes) (s : State) : State :=
  let s := { s with rxSeq := s.rxSeq + 1 }
  report (.deliver payload) (emit (ackFrame s.rxSeq) s)

/-- The REPLAY class (R165): re-acknowledged, RX_SEQ kept, delivered again as the parameter says. -/
def replayData (p : Config.Params) (payload : Bytes) (s : State) : State :=
  let s := emit (ackFrame s.rxSeq) s
  if p.replayDelivers then report (.deliver payload) s else s

/-- The REJECT class (R166): ACK, then NAK, and nothing delivered. -/
def rejectData (s : State) : State :=
  diag .outOfSequence (emit (nakFrame s.rxSeq) (emit (ackFrame s.rxSeq) s))

/-- RECEIVE_DATA (R162): the acknowledgement it carries first, then its class. -/
def receiveData (p : Config.Params) (frm : SeqNum) (re : Bit) (ackNum : SeqNum) (payload : Bytes)
    (s : State) : State :=
  if linkUp s then
    let s := ackProcess p ackNum s
    match dataClass p s.rxSeq frm re with
    | .accept => acceptData payload s
    | .replay => replayData p payload s
    | .reject => rejectData s
  else diag .ignoredNotConnected s

/-- RECEIVE_ACK (R172). The reserved bit is ignored (30_encoding.md R96). -/
def receiveAck (p : Config.Params) (nrdy : Bit) (ackNum : SeqNum) (s : State) : State :=
  if linkUp s then nrdyUpdate p nrdy (ackProcess p ackNum s)
  else diag .ignoredNotConnected s

/-- RECEIVE_NAK (R173): the request it names ends; it acknowledges nothing (43_tx_engine.md R224). -/
def receiveNak (p : Config.Params) (nrdy : Bit) (ackNum : SeqNum) (s : State) : State :=
  if linkUp s then
    nrdyUpdate p nrdy (if busy s ackNum then release ackNum .notAcked s else diag .unexpectedNak s)
  else diag .ignoredNotConnected s

/-- RECEIVE_RST (R174). -/
def receiveRst (s : State) : State := diag .unexpectedFrame s

/-- RECEIVE_RSTACK (R175) of a valid RSTACK. -/
def receiveRstack (code : Byte) (s : State) : State :=
  let s := report (.rstackRx code) s
  if s.resetPending then handshakeComplete code s
  else if code = Config.resetSoftware then s
  else enterFailed (.unexpectedReset code) none s

/-- RECEIVE_ERROR (R176). -/
def receiveError (code : Byte) (s : State) : State := enterFailed (.ncpError code) none s

/-- A parsed frame to the rule of its kind (R160). -/
def receiveFrame (p : Config.Params) (F : Frame) (s : State) : State :=
  match F with
  | .data frm re ackNum payload => receiveData p frm re ackNum payload s
  | .ack _ nrdy ackNum => receiveAck p nrdy ackNum s
  | .nak _ nrdy ackNum => receiveNak p nrdy ackNum s
  | .rst => receiveRst s
  | .rstack _ code => receiveRstack code s
  | .error _ code => receiveError code s

/-! ### The meanings -/

/-- DATA (R162). -/
def execData (frm : SeqNum) (re : Bit) (ackNum : SeqNum) (payload : Bytes) (s : State) :
    Host.Outcome State Fault Refusal :=
  .next (receiveData Config.block frm re ackNum payload s)

/-- ACK (R172). -/
def execAck (_res nrdy : Bit) (ackNum : SeqNum) (s : State) : Host.Outcome State Fault Refusal :=
  .next (receiveAck Config.block nrdy ackNum s)

/-- NAK (R173). -/
def execNak (_res nrdy : Bit) (ackNum : SeqNum) (s : State) : Host.Outcome State Fault Refusal :=
  .next (receiveNak Config.block nrdy ackNum s)

/-- RST (R174). -/
def execRst (s : State) : Host.Outcome State Fault Refusal := .next (receiveRst s)

/-- RSTACK (R175). A version other than 2 is dropped with BAD_VERSION and no other effect
(30_encoding.md R93). Log entry 6. -/
def execRstack (version code : Byte) (s : State) : Host.Outcome State Fault Refusal :=
  .next (if version = Config.ashVersion then receiveRstack code s else diag (.dropped .badVersion) s)

/-- ERROR (R176), any version (30_encoding.md R89). -/
def execError (_version code : Byte) (s : State) : Host.Outcome State Fault Refusal :=
  .next (receiveError code s)

end Sys2Proof.Machine
end

