-- ==== Sys2Proof/Machine/RxPipeline.lean ====
section
/-! DEFINITION. The receive pipeline (41_rx_pipeline.md): RX_BYTE and the six reserved wire bytes. -/

namespace Sys2Proof.Machine

/-- PROCESS_SEGMENT (R150): parse, then drop with a diagnostic or hand the frame on. -/
def processSegment (p : Config.Params) (segment : Bytes) (s : State) : State :=
  match parse segment with
  | .error reason => diag (.dropped reason) s
  | .ok F => receiveFrame p F s

/-! ### One byte outside discard -/

/-- FLAG outside discard: a run of terminators collapses (R142), a segment is processed (R143). -/
def onFlag (p : Config.Params) (s : State) : State :=
  if s.rxBuf = [] then s else processSegment p s.rxBuf { s with rxBuf := [] }

/-- CANCEL outside discard (R144). -/
def onCancelByte (s : State) : State := diag .cancelByte { s with rxBuf := [] }

/-- SUBSTITUTE outside discard (R145). -/
def onSubstitute (s : State) : State := diag .substituteByte { s with rxBuf := [], rxDiscard := true }

/-- XON outside discard (R146). -/
def onXon (s : State) : State := diag .xon s

/-- XOFF outside discard (R146). -/
def onXoff (s : State) : State := diag .xoff s

/-- Any other byte outside discard, ESCAPE among them: appended (R147), or lost to a full buffer (R148). -/
def onOther (p : Config.Params) (b : Byte) (s : State) : State :=
  if rxFull p s.rxBuf then diag .rxOverflow { s with rxBuf := [], rxDiscard := true }
  else { s with rxBuf := s.rxBuf ++ [b] }

/-- FLAG while discarding ends the discard (R141). -/
def endDiscard (s : State) : State := { s with rxDiscard := false }

/-- RX_BYTE(b), the complete pseudocode, its tests in its order (R149). -/
def rxByte (p : Config.Params) (b : Byte) (s : State) : State :=
  if s.rxDiscard then
    if b = Config.flagByte then endDiscard s else s
  else if b = Config.flagByte then onFlag p s
  else if b = Config.cancelByte then onCancelByte s
  else if b = Config.substituteByte then onSubstitute s
  else if b = Config.xonByte then onXon s
  else if b = Config.xoffByte then onXoff s
  else onOther p b s

/-! ### The meanings -/

/-- FLAG (R141, R142, R143). -/
def execFlag (s : State) : Host.Outcome State Fault Refusal :=
  .next (if s.rxDiscard then endDiscard s else onFlag Config.block s)

/-- ESCAPE (R141, R147, R148): kept in RX_BUF for UNSTUFF at the segment's end (40_codec.md R123). -/
def execEscape (s : State) : Host.Outcome State Fault Refusal :=
  .next (if s.rxDiscard then s else onOther Config.block Config.escapeByte s)

/-- XON (R141, R146). -/
def execXon (s : State) : Host.Outcome State Fault Refusal := .next (if s.rxDiscard then s else onXon s)

/-- XOFF (R141, R146). -/
def execXoff (s : State) : Host.Outcome State Fault Refusal := .next (if s.rxDiscard then s else onXoff s)

/-- SUBSTITUTE (R141, R145). -/
def execSubstitute (s : State) : Host.Outcome State Fault Refusal :=
  .next (if s.rxDiscard then s else onSubstitute s)

/-- CANCEL, the wire byte (R141, R144). -/
def execCancelByte (s : State) : Host.Outcome State Fault Refusal :=
  .next (if s.rxDiscard then s else onCancelByte s)

/-- RX_BYTE(b) for every byte b (R140, R149). -/
def execRxByte (b : Byte) (s : State) : Host.Outcome State Fault Refusal :=
  .next (rxByte Config.block b s)

end Sys2Proof.Machine
end

