-- ==== Sys2Proof/Machine/TxEngine.lean ====
section
/-! DEFINITION. The transmit engine's input events (43_tx_engine.md): SEND and CANCEL. -/

namespace Sys2Proof.Machine

/-- An accepted SEND (R203): slot TX_SEQ takes the request, which is transmitted or held by the pause. -/
def acceptSend (P : Bytes) (s : State) : State :=
  let f := s.txSeq
  let s := setSlot f { slotAt s f with payload := P, attempt := 0 } { s with txSeq := f + 1 }
  transmitOrHold f (report (.accepted f) s)

/-- SEND(P) (R200): rejected (R201), held with no effect (R202), or accepted (R203). -/
def sendRequest (p : Config.Params) (P : Bytes) (s : State) : State :=
  match sendRejection p P s with
  | some reason => report (.sendRejected reason) s
  | none => if sendHeld s then s else acceptSend P s

/-- CANCEL(f) (R216). -/
def cancelRequest (f : SeqNum) (s : State) : State :=
  if busy s f then release f .cancelled s else diag .cancelNoSlot s

/-! ### The meanings -/

/-- SEND(P) (R200 to R204). A held SEND writes no state and produces no output (R202); the step does not
take it from the environment (log entry 2). -/
def execSend (payload : Bytes) (s : State) : Host.Outcome State Fault Refusal :=
  .next (sendRequest Config.block payload s)

/-- CANCEL(f) (R216). -/
def execCancel (f : SeqNum) (s : State) : Host.Outcome State Fault Refusal := .next (cancelRequest f s)

end Sys2Proof.Machine
end

