-- ==== Sys2Proof/Machine/Dispatch.lean ====
section
/-! DEFINITION. The dispatch: one arm per constructor of Instr, one call of its meaning. -/

namespace Sys2Proof.Machine

def exec (i : Instr) (s : State) : Host.Outcome State Fault Refusal :=
  match i with
  | .data frm re ackNum payload => Sys2Proof.Machine.execData frm re ackNum payload s
  | .ack res nrdy ackNum => Sys2Proof.Machine.execAck res nrdy ackNum s
  | .nak res nrdy ackNum => Sys2Proof.Machine.execNak res nrdy ackNum s
  | .rst => Sys2Proof.Machine.execRst s
  | .rstack version code => Sys2Proof.Machine.execRstack version code s
  | .error version code => Sys2Proof.Machine.execError version code s
  | .flag => Sys2Proof.Machine.execFlag s
  | .escape => Sys2Proof.Machine.execEscape s
  | .xon => Sys2Proof.Machine.execXon s
  | .xoff => Sys2Proof.Machine.execXoff s
  | .substitute => Sys2Proof.Machine.execSubstitute s
  | .cancelByte => Sys2Proof.Machine.execCancelByte s
  | .rxByte b => Sys2Proof.Machine.execRxByte b s
  | .send payload => Sys2Proof.Machine.execSend payload s
  | .cancel f => Sys2Proof.Machine.execCancel f s
  | .resetReq => Sys2Proof.Machine.execResetReq s
  | .tick => Sys2Proof.Machine.execTick s
  | .connLost => Sys2Proof.Machine.execConnLost s

end Sys2Proof.Machine
end

