-- ==== Sys2Proof/Machine/Fetch.lean ====
section
/-! DEFINITION. What a step fetches: the first enabled event the environment offers, and the instruction it
is. Also how a word of the opcode table is laid out so that the next step runs it. -/

namespace Sys2Proof.Machine

/-- The instruction that an input event is: a received byte by the byte layer (`decodeByte`), every other
event its own row of the table. -/
def decodeEvent : InputEvent → Instr
  | .rxByte b => decodeByte b
  | .send payload => .send payload
  | .cancel f => .cancel f
  | .resetReq => .resetReq
  | .tick => .tick
  | .connLost => .connLost

/-- Whether an event is enabled: every event is, but a SEND that is held (43_tx_engine.md R202,
60_exceptions.md R271). -/
def enabled (p : Config.Params) (s : State) : InputEvent → Bool
  | .send payload => !((sendRejection p payload s).isNone && sendHeld s)
  | .rxByte _ => true
  | .cancel _ => true
  | .resetReq => true
  | .tick => true
  | .connLost => true

/-- The first enabled event of a list of offers, and the list without it. A held SEND stays where it is:
no step takes it, and it is offered again (R202). Log entry 2. -/
def nextOffer (p : Config.Params) (s : State) : List InputEvent → Option (InputEvent × List InputEvent)
  | [] => none
  | e :: es => if enabled p s e then some (e, es) else (nextOffer p s es).map fun r => (r.1, e :: r.2)

/-- Lay a word of the opcode table out where the next step fetches it (log entry 10). A reserved byte is
offered as the next RX_BYTE. A control byte with its body and its CRC is put, stuffed, into RX_BUF, the
discard is ended, and the FLAG that closes the segment is offered next. -/
def loadWord (nbits w : Nat) (s : State) : State :=
  match wordBytes (nbits / 8) w with
  | [] => s
  | c :: body =>
    if isReserved c then { s with input := .rxByte c :: s.input }
    else
      { s with
        rxBuf := stuff (withCrc (c :: padBody c body))
        rxDiscard := false
        input := .rxByte Config.flagByte :: s.input }

end Sys2Proof.Machine
end

