-- ==== Sys2Proof/Machine/Step.lean ====
section
/-! DEFINITION. One step: the first enabled event the environment offers, run to its end (00_scope.md R4,
20_memory.md R68). -/

namespace Sys2Proof.Machine

/-- One step of the block. With no enabled event on offer it holds its state unchanged (60_exceptions.md R278). -/
def step (s : State) : Host.Outcome State Fault Refusal :=
  match nextOffer Config.block s s.input with
  | none => .next s
  | some (e, rest) => exec (decodeEvent e) { s with input := rest }

/-- The state with the word of an opcode-table row laid out so that the very next step runs it
(log entry 10). -/
def State.withFetchWord (s : State) (nbits w : Nat) : State := loadWord nbits w s

end Sys2Proof.Machine
end

