-- ==== Sys2Proof/Safety.lean ====
section
/-! DEFINITION. What a safe state of the block is, and the terms in which claims speak of its outputs. -/

namespace Sys2Proof.Machine

/-- The invariant of the block: what 10_state.md, 43_tx_engine.md and 44_link_control.md say of every
reachable state. -/
structure Safe (s : State) : Prop where
  /-- At most TX_K slots are busy (10_state.md R37, 43_tx_engine.md R218). -/
  window : busyCount s ≤ Config.txK
  /-- T_RX_ACK is at least T_MIN (R219). -/
  ackTimeoutLow : Config.tMin ≤ s.tRxAck.toNat
  /-- T_RX_ACK is at most T_MAX (R219). -/
  ackTimeoutHigh : s.tRxAck.toNat ≤ Config.tMax
  /-- A busy slot implies `link_up` (10_state.md R42). -/
  busyLinkUp : ∀ f, busy s f = true → linkUp s = true
  /-- RX_BUF never holds FLAG, CANCEL, SUBSTITUTE, XON or XOFF (R38). -/
  rxBufClean : ∀ b ∈ s.rxBuf, isStray b = false
  /-- RX_BUF holds at most RX_BUF_MAX bytes (R38). -/
  rxBufBound : ∀ most, Config.block.rxBufMax = some most → s.rxBuf.length ≤ most
  /-- RX_BUF is empty while discarding (41_rx_pipeline.md R141). -/
  discardEmpty : s.rxDiscard = true → s.rxBuf = []
  /-- RESET_TIMER is below T_RESET between steps (10_state.md R24, 44_link_control.md R243). -/
  resetTimerRange : s.resetTimer.toNat < Config.tReset
  /-- RESET_TIMER is 0 while no handshake is pending (R240, R242, R243, R245). -/
  resetTimerIdle : s.resetPending = false → s.resetTimer = 0
  /-- NRDY_TIMER is below T_REMOTE_NOTRDY between steps (10_state.md R25, 44_link_control.md R248). -/
  nrdyTimerRange : s.nrdyTimer.toNat < Config.tRemoteNotRdy
  /-- NRDY_TIMER is 0 while there is no pause (R247, R248). -/
  nrdyTimerIdle : s.remoteNrdy = false → s.nrdyTimer = 0
  /-- A pause needs NRDY_PAUSE (10_state.md R25). -/
  pauseAllowed : s.remoteNrdy = true → Config.block.nrdyPause = true
  /-- A pause needs the link up: every rule that clears `link_up` clears it (44_link_control.md R240, R244). -/
  pauseLinkUp : s.remoteNrdy = true → linkUp s = true
  /-- Only the pause holds a transmission back (10_state.md R30). -/
  waitTxPaused : ∀ f, (slotAt s f).state = .waitTx → s.remoteNrdy = true
  /-- The deadline of a transmission on the wire is a value T_RX_ACK had (R33). -/
  deadlineRange : ∀ f, (slotAt s f).state = .waitAck →
    Config.tMin ≤ (slotAt s f).deadline.toNat ∧ (slotAt s f).deadline.toNat ≤ Config.tMax
  /-- No transmission on the wire is past its deadline between steps (43_tx_engine.md R207, R208). -/
  beforeDeadline : ∀ f, (slotAt s f).state = .waitAck →
    (slotAt s f).elapsed.toNat < (slotAt s f).deadline.toNat

/-! ### Runs -/

/-- k steps of the block, as the host runs its core. -/
def runSteps (k : Nat) (s : State) : Host.Outcome State Fault Refusal := Host.Core.run core k s

/-! ### The timeouts of one TICK (60_exceptions.md R270) -/

/-- The state in which part 5 of a TICK begins, in closed form, when the reset deadline does not fall in
that TICK: the counters have advanced (43_tx_engine.md R206), and a pause whose 1000 milliseconds are over
has ended and its held slots have been transmitted, oldest first (44_link_control.md R248, R249). -/
def stateAtTimeouts (s : State) : State :=
  if s.remoteNrdy = true ∧ s.nrdyTimer.toNat = 999 then
    { s with
      resetTimer := if s.resetPending then s.resetTimer + 1 else s.resetTimer
      remoteNrdy := false
      nrdyTimer := 0
      slots := s.slots.map fun x =>
        if x.state = .waitTx then { x with state := .waitAck, deadline := s.tRxAck, elapsed := 0 }
        else elapseSlot x
      wireOut := s.wireOut ++
        ((oldestFirst s.txSeq).filter fun f => (slotAt s f).state = .waitTx).flatMap fun f =>
          wire (.data f (if 0 < (slotAt s f).attempt.toNat then 1 else 0) s.rxSeq (slotAt s f).payload) }
  else
    { s with
      resetTimer := if s.resetPending then s.resetTimer + 1 else s.resetTimer
      nrdyTimer := if s.remoteNrdy then s.nrdyTimer + 1 else s.nrdyTimer
      slots := s.slots.map elapseSlot }

/-- The slots that are past their deadline, oldest first (43_tx_engine.md R207, R209). -/
def timedOutSlots (u : State) : List SeqNum := (oldestFirst u.txSeq).filter (timedOut u)

/-- T_RX_ACK after n timeouts, each of which doubles it up to T_MAX (43_tx_engine.md R208, R209). -/
def ackTimeoutAfter (n : Nat) (T : BitVec 12) : BitVec 12 :=
  if n = 0 then T else BitVec.ofNat 12 (min 3200 (2 ^ n * T.toNat))

/-- Slot f after its timeout when n slots have timed out before it in that TICK (43_tx_engine.md R208, R209):
the attempt counts, and the slot waits again, on the wire with the deadline that T_RX_ACK has after its own
doubling, or held by the pause, its elapsed count then starting at 0 (the model's choice, log entry 17). -/
def retriedSlot (u : State) (n : Nat) (f : SeqNum) : Slot :=
  if u.remoteNrdy then
    { slotAt u f with state := .waitTx, attempt := (slotAt u f).attempt + 1, elapsed := 0 }
  else
    { slotAt u f with
      attempt := (slotAt u f).attempt + 1
      deadline := ackTimeoutAfter (n + 1) u.tRxAck
      elapsed := 0 }

/-- What the listed slots put on the wire when they time out: each its frame with re_tx 1, in their order, and
nothing while the pause lasts (43_tx_engine.md R205, R208). -/
def retriedWire (u : State) (fs : List SeqNum) : Bytes :=
  if u.remoteNrdy then [] else fs.flatMap fun f => wire (.data f 1 u.rxSeq (slotAt u f).payload)

/-! ### Requests and their completions (43_tx_engine.md R220) -/

/-- Whether an upward event completes a request of slot f. -/
def isComplete (f : SeqNum) : UpEvent → Bool
  | .complete g _ => g == f
  | _ => false

/-- How many ACCEPTED(f) UP_OUT holds. -/
def acceptedCount (s : State) (f : SeqNum) : Nat := s.upOut.count (.accepted f)

/-- How many COMPLETE(f, ·) UP_OUT holds. -/
def completedCount (s : State) (f : SeqNum) : Nat := s.upOut.countP (isComplete f)

/-- Every accepted request of every slot has completed exactly once, but for the one that holds the slot
now (R220). -/
def RequestsBalanced (s : State) : Prop :=
  ∀ f, acceptedCount s f = completedCount s f + (if busy s f then 1 else 0)

/-! ### The output logs (10_state.md R45) -/

/-- The state with earlier output put in front of its three logs. -/
def withEarlierLogs (wireOut : Bytes) (upOut : List UpEvent) (diagOut : List Diag) (s : State) : State :=
  { s with wireOut := wireOut ++ s.wireOut, upOut := upOut ++ s.upOut, diagOut := diagOut ++ s.diagOut }

/-- Apply a change to the next state of an outcome. -/
def mapNext (g : State → State) : Host.Outcome State Fault Refusal → Host.Outcome State Fault Refusal
  | .next s => .next (g s)
  | .fault r => .fault r
  | .refused r => .refused r

end Sys2Proof.Machine
end

