-- ==== Sys2Proof/Certificates/Slice0/Obligations.lean ====
section
/-! DEFINITION. The statements for the provers. Each docstring says which rule of the spec a statement
formalises, or what it rests on. -/

open Sys2Proof Sys2Proof.Machine

/-! ### Power-on and the step -/

/-- 10_state.md R46: the power-on value of every register and log of the table. (The model's own field
`input` is not in the table.) -/
def Obligations.ResetIsThePowerOnState : Prop :=
  State.reset.ncpState = .failed ∧ State.reset.resetPending = false ∧ State.reset.resetTimer = 0 ∧
  State.reset.remoteNrdy = false ∧ State.reset.nrdyTimer = 0 ∧ State.reset.txSeq = 0 ∧
  State.reset.rxSeq = 0 ∧ State.reset.tRxAck.toNat = 1600 ∧
  (∀ f, slotAt State.reset f =
    { state := .free, payload := [], attempt := 0, deadline := 0, elapsed := 0 }) ∧
  State.reset.rxBuf = [] ∧ State.reset.rxDiscard = false ∧
  State.reset.wireOut = [] ∧ State.reset.upOut = [] ∧ State.reset.diagOut = []

/-- A step runs the first enabled event on offer, as the instruction that event is, on the state with that
event taken; with no enabled event on offer it changes nothing (00_scope.md R4, 43_tx_engine.md R202,
60_exceptions.md R278). The queue of offers is the model's choice (log entries 1 and 2). -/
def Obligations.StepRunsFirstEnabledEvent : Prop :=
  (∀ (s : State) (held rest : List InputEvent) (e : InputEvent),
    s.input = held ++ e :: rest →
    (∀ x ∈ held, enabled Config.block s x = false) →
    enabled Config.block s e = true →
    step s = exec (decodeEvent e) { s with input := held ++ rest }) ∧
  (∀ s : State, (∀ x ∈ s.input, enabled Config.block s x = false) → step s = .next s)

/-- When the event on offer is the FLAG that closes a segment which parses, the step runs the frame that
the segment is, on the state with RX_BUF closed (41_rx_pipeline.md R143, R150, 42_frame_receive.md R160). -/
def Obligations.StepRunsReceivedFrame : Prop :=
  ∀ (s : State) (rest : List InputEvent) (F : Frame),
    s.input = .rxByte Config.flagByte :: rest → s.rxDiscard = false → parse s.rxBuf = .ok F →
    step s = exec F.toInstr { s with rxBuf := [], input := rest }

/-- A word of the opcode table laid out by `withFetchWord` is run by the very next step: a reserved byte as
its own row, a control byte as the frame it begins. This is about the model's own lay-out (log entries 4
and 10). -/
def Obligations.StepRunsLaidOutWord : Prop :=
  ∀ (s : State) (nbits w : Nat) (i : Instr), decodeTableWord nbits w = some i →
    step (s.withFetchWord nbits w) =
      exec i (if isReserved (BitVec.ofNat 8 w) then s else { s with rxBuf := [], rxDiscard := false })

/-- Every step ends in a next state, and so does every instruction: no fault, no refusal
(60_exceptions.md R271, 93_implementation_defined.md). -/
def Obligations.EveryStepEndsInNextState : Prop :=
  (∀ s : State, ∃ t, step s = .next t) ∧ (∀ (i : Instr) (s : State), ∃ t, exec i s = .next t)

/-! ### The codec -/

/-- 40_codec.md R113: the sequence has period 255, its first 255 bytes are distinct and non-zero, byte 255
is the seed again, and a payload of any length is masked by PRBS[k mod 255]. -/
def Obligations.PrbsHasPeriod255 : Prop :=
  (∀ i, prbs (i + 255) = prbs i) ∧ (∀ i, i < 255 → prbs i ≠ 0) ∧
  (∀ i j, i < 255 → j < 255 → prbs i = prbs j → i = j) ∧ prbs 255 = 0x42 ∧ prbs 0 = 0x42 ∧
  (∀ (P : Bytes) (k : Nat), (scramble P)[k]? = P[k]?.map (· ^^^ prbs (k % 255)))

/-- 40_codec.md R115: SCRAMBLE is its own inverse; and R112: it is what an LFSR register does that is
loaded with 0x42 at the start of the payload and stepped once a byte. -/
def Obligations.ScrambleIsInvolutionByLfsr : Prop :=
  (∀ P : Bytes, scramble (scramble P) = P) ∧ (∀ P : Bytes, scramble P = lfsrMask 0x42 P)

/-- 40_codec.md R120: the CRC check is the same as a zero residue. -/
def Obligations.CrcCheckIsZeroResidue : Prop :=
  ∀ U : Bytes, 3 ≤ U.length → (crcOk U = true ↔ crc16 U = 0)

/-- 40_codec.md R124: UNSTUFF undoes STUFF on every byte string; STUFF puts ESCAPE in front of every
RESERVED byte and changes no other byte. -/
def Obligations.UnstuffInvertsStuff : Prop :=
  (∀ B : Bytes, unstuff (stuff B) = some B) ∧
  (∀ b : Byte, stuff [b] = if isReserved b then [Config.escapeByte, b ^^^ 0x20] else [b]) ∧
  (∀ A B : Bytes, stuff (A ++ B) = stuff A ++ stuff B)

/-- 30_encoding.md R97: the RESERVED bytes are the six of the rule's table, each with the byte it stands as
after ESCAPE; exactly those six escape sequences are valid, and any other byte after ESCAPE, or none, fails
the whole segment, after every prefix that unstuffs (escape sequences in it among them). -/
def Obligations.EscapeSequencesAreTheSix : Prop :=
  let table : List (Byte × Byte) :=
    [(0x7E, 0x5E), (0x7D, 0x5D), (0x11, 0x31), (0x13, 0x33), (0x18, 0x38), (0x1A, 0x3A)]
  (∀ b : Byte, isReserved b = true ↔ b ∈ table.map Prod.fst) ∧
  (∀ v b : Byte, unstuff [0x7D, v] = some [b] ↔ (b, v) ∈ table) ∧
  (∀ (A U rest : Bytes) (b v : Byte), unstuff A = some U → (b, v) ∈ table →
    unstuff (A ++ 0x7D :: v :: rest) = (unstuff rest).map fun R => U ++ b :: R) ∧
  (∀ (A U rest : Bytes) (v : Byte), unstuff A = some U → v ∉ table.map Prod.snd →
    unstuff (A ++ 0x7D :: v :: rest) = none) ∧
  (∀ A U : Bytes, unstuff A = some U → unstuff (A ++ [0x7D]) = none)

/-- 30_encoding.md R83: the six classes are disjoint, and the control-byte space divides up as the rule's
table says. -/
def Obligations.ControlByteSpaceDivides : Prop :=
  (∀ c : Byte, kindTable.Pairwise fun r q => ¬(r.hits c = true ∧ q.hits c = true)) ∧
  (∀ c : Byte, kindOf c =
    if c < 0x80 then some .data else if c < 0xA0 then some .ack else if c < 0xC0 then some .nak
    else if c = 0xC0 then some .rst else if c = 0xC1 then some .rstack else if c = 0xC2 then some .error
    else none)

/-- 40_codec.md R131: parsing the serialised form of a well-formed frame gives the frame back, whatever its
reserved bit and however long its payload; the serialised form is the wire form without its FLAG. -/
def Obligations.ParseInvertsSerialise : Prop :=
  ∀ F : Frame, F.wf = true →
    parse (stuff (frameBytes F)) = .ok F ∧ wire F = stuff (frameBytes F) ++ [Config.flagByte]

/-- The other direction: a segment of the receive buffer (no FLAG, CANCEL, SUBSTITUTE, XON or XOFF in it)
that parses is exactly the serialised form of the frame it parses to, and that frame is well formed
(40_codec.md R123, R127, R130). No bit of an accepted segment is dropped. -/
def Obligations.ParsedSegmentIsTheSerialisedFrame : Prop :=
  ∀ (segment : Bytes) (F : Frame), (∀ b ∈ segment, isStray b = false) → parse segment = .ok F →
    segment = stuff (frameBytes F) ∧ F.wf = true

/-- Decode and encode agree for every well-formed instruction that has a wire form, with every operand at
every value (30_encoding.md R80, R81, 40_codec.md R128, R130), `decode` reading one whole item of the wire
(log entry 13). RX_BYTE(b) of a reserved byte is excluded by `canonical`: that byte decodes to its own row. It
says that the two agree, not where the fields of a control byte stand (log entry 5). -/
def Obligations.DecodeInvertsEncode : Prop :=
  ∀ (i : Instr) (bytes : Bytes), i.wf = true → i.canonical = true → encode i = some bytes →
    decode bytes = .ok i

/-- A few wire forms written out from the spec decode to their frames (95_test_vectors.md V2-1, V2-2, V2-4,
V2-8, V2-15, V2-31): RST, RSTACK and ERROR by R87 to R89 of 30_encoding.md. The ACK, NAK and DATA forms rest
on the bit places of log entry 5 (DEDUCED), which the spec gives as its own inference (R84 to R86 and
91_not_in_source.md N2). The last clause is of the byte layer (30_encoding.md R81): the reserved byte 0x18 by
itself decodes to SUBSTITUTE, as `decode` reads one whole item of the wire (log entry 13). -/
def Obligations.WrittenOutFramesDecode : Prop :=
  decode [0xC0, 0x38, 0xBC, 0x7E] = .ok .rst ∧
  decode [0xC1, 0x02, 0x0B, 0x0A, 0x52, 0x7E] = .ok (.rstack 2 0x0B) ∧
  decode [0xC2, 0x02, 0x06, 0x82, 0xAF, 0x7E] = .ok (.error 2 0x06) ∧
  decode [0x81, 0x60, 0x59, 0x7E] = .ok (.ack 0 0 1) ∧
  decode [0xA0, 0x54, 0x7D, 0x3A, 0x7E] = .ok (.nak 0 0 0) ∧
  decode [0x7D, 0x38, 0x40, 0xDF, 0x7D, 0x31, 0x7E] = .ok (.data 1 1 0 [0x02]) ∧
  decode [0x18] = .ok .substitute

/-! ### The receive pipeline -/

/-- 41_rx_pipeline.md R141: while RX_DISCARD is true every byte is dropped with no effect at all, but FLAG
also clears RX_DISCARD; and so over a run of bytes, to the first FLAG. -/
def Obligations.DiscardDropsBytesThroughFlag : Prop :=
  (∀ s : State, s.rxDiscard = true →
    exec .flag s = .next { s with rxDiscard := false } ∧ exec .escape s = .next s ∧ exec .xon s = .next s ∧
    exec .xoff s = .next s ∧ exec .substitute s = .next s ∧ exec .cancelByte s = .next s ∧
    exec (.rxByte Config.flagByte) s = .next { s with rxDiscard := false } ∧
    ∀ b, b ≠ Config.flagByte → exec (.rxByte b) s = .next s) ∧
  (∀ (s : State) (bytes : Bytes) (rest : List InputEvent), s.rxDiscard = true →
    (∀ b ∈ bytes, b ≠ Config.flagByte) →
    runSteps (bytes.length + 1)
        { s with input := (bytes ++ [Config.flagByte]).map .rxByte ++ rest } =
      .next { s with rxDiscard := false, input := rest })

/-- FLAG outside discard (41_rx_pipeline.md R142, R143, R150): nothing on an empty buffer; a segment that
does not parse is dropped with its reason and writes no other register; a segment that parses is the frame
it parses to, run with RX_BUF empty. -/
def Obligations.FlagClosesTheSegment : Prop :=
  ∀ s : State, s.rxDiscard = false →
    (s.rxBuf = [] → exec .flag s = .next s) ∧
    (∀ reason, s.rxBuf ≠ [] → parse s.rxBuf = .error reason →
      exec .flag s = .next { s with rxBuf := [], diagOut := s.diagOut ++ [.dropped reason] }) ∧
    (∀ F, parse s.rxBuf = .ok F → exec .flag s = exec F.toInstr { s with rxBuf := [] })

/-- 41_rx_pipeline.md R144: CANCEL outside discard drops the partial frame; RX_DISCARD stays false. -/
def Obligations.CancelByteDropsPartialFrame : Prop :=
  ∀ s : State, s.rxDiscard = false →
    exec .cancelByte s =
      .next { s with rxBuf := [], rxDiscard := false, diagOut := s.diagOut ++ [.cancelByte] }

/-- SUBSTITUTE outside discard (41_rx_pipeline.md R145): the buffer is cleared and the discard begins, and
the bytes up to and including the next FLAG are then dropped, so that the whole run changes nothing but
RX_BUF and DIAG_OUT. -/
def Obligations.SubstituteDiscardsThroughFlag : Prop :=
  (∀ s : State, s.rxDiscard = false →
    exec .substitute s =
      .next { s with rxBuf := [], rxDiscard := true, diagOut := s.diagOut ++ [.substituteByte] }) ∧
  (∀ (s : State) (bytes : Bytes) (rest : List InputEvent), s.rxDiscard = false →
    (∀ b ∈ bytes, b ≠ Config.flagByte) →
    runSteps (bytes.length + 2)
        { s with input := (Config.substituteByte :: bytes ++ [Config.flagByte]).map .rxByte ++ rest } =
      .next { s with rxBuf := [], diagOut := s.diagOut ++ [.substituteByte], input := rest })

/-- 41_rx_pipeline.md R146: XON or XOFF outside discard is logged and nothing else changes. -/
def Obligations.XonXoffAreOnlyLogged : Prop :=
  ∀ s : State, s.rxDiscard = false →
    exec .xon s = .next { s with diagOut := s.diagOut ++ [.xon] } ∧
    exec .xoff s = .next { s with diagOut := s.diagOut ++ [.xoff] }

/-- Any other byte outside discard, ESCAPE among them, is appended to RX_BUF (41_rx_pipeline.md R147), but
when RX_BUF holds RX_BUF_MAX bytes it is dropped and the discard begins (R148). -/
def Obligations.OtherBytesAreBufferedOrOverflow : Prop :=
  ∀ s : State, s.rxDiscard = false →
    (∀ b, isStray b = false → exec (.rxByte b) s =
      if Config.block.rxBufMax = some s.rxBuf.length then
        .next { s with rxBuf := [], rxDiscard := true, diagOut := s.diagOut ++ [.rxOverflow] }
      else .next { s with rxBuf := s.rxBuf ++ [b] }) ∧
    exec .escape s =
      if Config.block.rxBufMax = some s.rxBuf.length then
        .next { s with rxBuf := [], rxDiscard := true, diagOut := s.diagOut ++ [.rxOverflow] }
      else .next { s with rxBuf := s.rxBuf ++ [Config.escapeByte] }

/-- The arrival of a byte, RX_BYTE(b), is the byte-layer instruction that the byte is, in every state
(30_encoding.md R81, 41_rx_pipeline.md R149). -/
def Obligations.RxByteIsItsByteInstruction : Prop :=
  ∀ (b : Byte) (s : State), exec (.rxByte b) s = exec (decodeByte b) s

/-- End to end: from a state outside discard with an empty buffer, the bytes of a well-formed frame's wire
form, offered one RX_BYTE event each, come to exactly what that frame's rule does, provided the stuffed
frame fits RX_BUF (40_codec.md R125, R131, 41_rx_pipeline.md R143, R147, R150, 20_memory.md R65). -/
def Obligations.ReceivedWireFormRunsItsFrame : Prop :=
  ∀ (s : State) (F : Frame) (rest : List InputEvent), F.wf = true → s.rxDiscard = false → s.rxBuf = [] →
    (∀ most, Config.block.rxBufMax = some most → (stuff (frameBytes F)).length ≤ most) →
    runSteps (wire F).length { s with input := (wire F).map .rxByte ++ rest } =
      exec F.toInstr { s with input := rest }

/-! ### Frame receive -/

/-- DATA, ACK and NAK are dropped while the link is not up: logged, no register changes, nothing is emitted
(42_frame_receive.md R161). -/
def Obligations.GatedFramesIgnoredWhileLinkDown : Prop :=
  ∀ s : State, s.ncpState = .failed ∨ s.resetPending = true →
    (∀ frm re a P, exec (.data frm re a P) s =
      .next { s with diagOut := s.diagOut ++ [.ignoredNotConnected] }) ∧
    (∀ res nrdy a, exec (.ack res nrdy a) s =
      .next { s with diagOut := s.diagOut ++ [.ignoredNotConnected] }) ∧
    (∀ res nrdy a, exec (.nak res nrdy a) s =
      .next { s with diagOut := s.diagOut ++ [.ignoredNotConnected] })

/-- A DATA frame while the link is up (42_frame_receive.md R162 to R166): the acknowledgement it carries is
processed first; then the frame is accepted (RX_SEQ advances, the ACK carries the advanced value, the
payload is delivered), or is a replay (re-acknowledged, delivered as REPLAY_DELIVERS says), or is rejected
(ACK, then NAK). `ackProcess` is stated by `AckNamesItsSlots`. -/
def Obligations.DataFrameEffect : Prop :=
  ∀ (s t : State) (frm : SeqNum) (re : Bit) (a : SeqNum) (P : Bytes),
    s.ncpState = .connected → s.resetPending = false → t = ackProcess Config.block a s →
    (frm = s.rxSeq ∧ (re = 0 ∨ re = 1 ∧ Config.block.retxNewAccept = true) →
      exec (.data frm re a P) s =
        .next { t with
          rxSeq := s.rxSeq + 1
          wireOut := s.wireOut ++ wire (.ack 0 0 (s.rxSeq + 1))
          upOut := t.upOut ++ [.deliver P] }) ∧
    (frm = s.rxSeq - 1 ∧ re = 1 →
      exec (.data frm re a P) s =
        .next { t with
          wireOut := s.wireOut ++ wire (.ack 0 0 s.rxSeq)
          upOut := t.upOut ++ (if Config.block.replayDelivers then [.deliver P] else []) }) ∧
    (re = 0 ∧ frm ≠ s.rxSeq ∨
        re = 1 ∧ frm ≠ s.rxSeq - 1 ∧ ¬(frm = s.rxSeq ∧ Config.block.retxNewAccept = true) →
      exec (.data frm re a P) s =
        .next { t with
          wireOut := s.wireOut ++ wire (.ack 0 0 s.rxSeq) ++ wire (.nak 0 0 s.rxSeq)
          diagOut := t.diagOut ++ [.outOfSequence] })

/-- ACK_PROCESS (43_tx_engine.md R210 to R213, D48): an ack_num that names a FREE slot is only logged; under
LAST_ONLY the named slot completes with the adaptive update of its own round trip; under CUMULATIVE every
busy slot at least as old completes, oldest first, one update each. Every other register, WIRE_OUT and the
other slots are unchanged. -/
def Obligations.AckNamesItsSlots : Prop :=
  ∀ (p : Config.Params) (a : SeqNum) (s : State),
    (busy s (a - 1) = false → ackProcess p a s = { s with diagOut := s.diagOut ++ [.unexpectedAck] }) ∧
    (busy s (a - 1) = true → p.ackScope = .lastOnly →
      ackProcess p a s =
        { s with
          tRxAck := BitVec.ofNat 12
            (min 3200 (max 400 ((7 * s.tRxAck.toNat + 4 * (slotAt s (a - 1)).elapsed.toNat) / 8)))
          slots := s.slots.set (a - 1).toNat { slotAt s (a - 1) with state := .free }
          upOut := s.upOut ++ [.complete (a - 1) .ok] }) ∧
    (busy s (a - 1) = true → p.ackScope = .cumulative →
      ∃ t, ackProcess p a s = t ∧
        t = { s with tRxAck := t.tRxAck, slots := t.slots, upOut := t.upOut } ∧
        (∀ f, slotAt t f =
          if busy s f = true ∧ age s.txSeq (a - 1) ≤ age s.txSeq f then { slotAt s f with state := .free }
          else slotAt s f) ∧
        t.upOut = s.upOut ++ (((busyOldestFirst s).filter fun f =>
          decide (age s.txSeq (a - 1) ≤ age s.txSeq f)).map fun f => .complete f .ok) ∧
        t.tRxAck = (((busyOldestFirst s).filter fun f =>
          decide (age s.txSeq (a - 1) ≤ age s.txSeq f)).foldl
            (fun T f => rttUpdate T (slotAt s f).elapsed) s.tRxAck))

/-- An ACK while the link is up is the acknowledgement it names, then the not-ready update of its bit; its
reserved bit changes nothing (42_frame_receive.md R172, 30_encoding.md R96). -/
def Obligations.AckFrameEffect : Prop :=
  ∀ (s : State) (res nrdy : Bit) (a : SeqNum), s.ncpState = .connected → s.resetPending = false →
    exec (.ack res nrdy a) s = .next (nrdyUpdate Config.block nrdy (ackProcess Config.block a s)) ∧
    exec (.ack res nrdy a) s = exec (.ack 0 nrdy a) s

/-- A NAK while the link is up ends the request it names with NOT_ACKED, or is only logged when the slot is
FREE, and then its not-ready bit is taken; it acknowledges nothing and leaves T_RX_ACK
(42_frame_receive.md R173, 43_tx_engine.md R224). -/
def Obligations.NakFrameEffect : Prop :=
  ∀ (s : State) (res nrdy : Bit) (a : SeqNum), s.ncpState = .connected → s.resetPending = false →
    (busy s a = true →
      exec (.nak res nrdy a) s =
        .next (nrdyUpdate Config.block nrdy
          { s with
            slots := s.slots.set a.toNat { slotAt s a with state := .free }
            upOut := s.upOut ++ [.complete a .notAcked] })) ∧
    (busy s a = false →
      exec (.nak res nrdy a) s =
        .next (nrdyUpdate Config.block nrdy { s with diagOut := s.diagOut ++ [.unexpectedNak] }))

/-- NRDY_UPDATE with RESUME (44_link_control.md R247, R249): without NRDY_PAUSE the bit is ignored; with it a
set bit starts or renews the pause, and a clear bit ends a pause and transmits every held slot, oldest
first, with the slot's current attempt and RX_SEQ. Nothing else changes. -/
def Obligations.NotReadyBitRunsThePause : Prop :=
  ∀ (p : Config.Params) (bit : Bit) (s : State),
    (p.nrdyPause = false → nrdyUpdate p bit s = s) ∧
    (p.nrdyPause = true → bit = 1 → nrdyUpdate p bit s = { s with remoteNrdy := true, nrdyTimer := 0 }) ∧
    (p.nrdyPause = true → bit = 0 → s.remoteNrdy = false → nrdyUpdate p bit s = s) ∧
    (p.nrdyPause = true → bit = 0 → s.remoteNrdy = true →
      nrdyUpdate p bit s =
        { s with
          remoteNrdy := false
          nrdyTimer := 0
          slots := s.slots.map fun x =>
            if x.state = .waitTx then { x with state := .waitAck, deadline := s.tRxAck, elapsed := 0 } else x
          wireOut := s.wireOut ++
            ((oldestFirst s.txSeq).filter fun f => (slotAt s f).state = .waitTx).flatMap fun f =>
              wire (.data f (if 0 < (slotAt s f).attempt.toNat then 1 else 0) s.rxSeq (slotAt s f).payload) })

/-- 42_frame_receive.md R174: a received RST is logged as UNEXPECTED_FRAME and changes no register. -/
def Obligations.RstIsOnlyLogged : Prop :=
  ∀ s : State, exec .rst s = .next { s with diagOut := s.diagOut ++ [.unexpectedFrame] }

/-- An RSTACK while a reset is pending completes the handshake, whatever its code (42_frame_receive.md R175,
44_link_control.md R242): the whole next state. -/
def Obligations.RstackCompletesHandshake : Prop :=
  ∀ (s : State) (code : Byte), s.resetPending = true →
    exec (.rstack 2 code) s =
      .next { s with
        ncpState := .connected
        resetPending := false
        resetTimer := 0
        remoteNrdy := false
        nrdyTimer := 0
        txSeq := 0
        rxSeq := 0
        tRxAck := 1600
        slots := s.slots.map fun x => { x with state := .free }
        upOut := s.upOut ++ [.rstackRx code]
          ++ (busyOldestFirst s).map (fun f => .complete f .transportFailed) ++ [.resetDone code] }

/-- An RSTACK with no reset pending (42_frame_receive.md R175, 44_link_control.md R244): always RSTACK_RX;
with the code SOFTWARE, or in FAILED, nothing more; with another code in CONNECTED the link enters FAILED.
An RSTACK whose version is not 2 is dropped with BAD_VERSION (30_encoding.md R93). -/
def Obligations.UnsolicitedRstackEffect : Prop :=
  ∀ (s : State) (code : Byte),
    (s.resetPending = false → code = 0x0B ∨ s.ncpState = .failed →
      exec (.rstack 2 code) s = .next { s with upOut := s.upOut ++ [.rstackRx code] }) ∧
    (s.resetPending = false → code ≠ 0x0B → s.ncpState = .connected →
      exec (.rstack 2 code) s =
        .next { s with
          ncpState := .failed
          remoteNrdy := false
          nrdyTimer := 0
          slots := s.slots.map fun x => { x with state := .free }
          upOut := s.upOut ++ [.rstackRx code]
            ++ (busyOldestFirst s).map (fun f => .complete f .transportFailed)
            ++ [.failure (.unexpectedReset code)] }) ∧
    (∀ version, version ≠ 2 →
      exec (.rstack version code) s = .next { s with diagOut := s.diagOut ++ [.dropped .badVersion] })

/-- An ERROR frame, any version (42_frame_receive.md R176, 44_link_control.md R244): from CONNECTED the link
enters FAILED, every request ends with TRANSPORT_FAILED, and FAILURE(NCP_ERROR(code)) follows; in FAILED
it has no effect. RESET_PENDING is kept. -/
def Obligations.ErrorFrameFailsTheLink : Prop :=
  ∀ (s : State) (version code : Byte),
    (s.ncpState = .connected →
      exec (.error version code) s =
        .next { s with
          ncpState := .failed
          remoteNrdy := false
          nrdyTimer := 0
          slots := s.slots.map fun x => { x with state := .free }
          upOut := s.upOut ++ (busyOldestFirst s).map (fun f => .complete f .transportFailed)
            ++ [.failure (.ncpError code)] }) ∧
    (s.ncpState = .failed → exec (.error version code) s = .next s)

/-! ### The transmit engine -/

/-- 43_tx_engine.md R201: a SEND is rejected at once in FAILED or during a reset, and else when its payload
exceeds a bounded MAX_PAYLOAD; only UP_OUT grows, and the window is not looked at: the event is enabled
however many slots are busy. `sendRequest` is the SEND of `exec` at the parameters of the block. -/
def Obligations.SendIsRejectedAtOnce : Prop :=
  (∀ (s : State) (P : Bytes), exec (.send P) s = .next (sendRequest Config.block P s)) ∧
  (∀ (p : Config.Params) (s : State) (P : Bytes), s.ncpState = .failed ∨ s.resetPending = true →
    enabled p s (.send P) = true ∧
    sendRequest p P s = { s with upOut := s.upOut ++ [.sendRejected .transportFailed] }) ∧
  (∀ (p : Config.Params) (s : State) (P : Bytes) (most : Nat),
    s.ncpState = .connected → s.resetPending = false → p.maxPayload = some most → most < P.length →
    enabled p s (.send P) = true ∧
    sendRequest p P s = { s with upOut := s.upOut ++ [.sendRejected .payloadTooLong] })

/-- A SEND that is not rejected is held while five slots are busy or slot TX_SEQ is: it is not enabled, and
it writes no state and produces no output (43_tx_engine.md R202). -/
def Obligations.HeldSendHasNoEffect : Prop :=
  ∀ (s : State) (P : Bytes), s.ncpState = .connected → s.resetPending = false →
    (∀ most, Config.block.maxPayload = some most → P.length ≤ most) →
    5 ≤ busyCount s ∨ busy s s.txSeq = true →
    enabled Config.block s (.send P) = false ∧ exec (.send P) s = .next s

/-- An accepted SEND (43_tx_engine.md R203, R204) is enabled, and slot TX_SEQ takes the payload at attempt 0,
TX_SEQ advances, ACCEPTED is reported, and the frame goes out with re_tx 0 and ack_num RX_SEQ, or is held by
the pause. Nothing else changes. -/
def Obligations.AcceptedSendTakesSlot : Prop :=
  ∀ (s : State) (P : Bytes), s.ncpState = .connected → s.resetPending = false →
    (∀ most, Config.block.maxPayload = some most → P.length ≤ most) →
    busyCount s < 5 → busy s s.txSeq = false →
    enabled Config.block s (.send P) = true ∧
    (s.remoteNrdy = false →
      exec (.send P) s =
        .next { s with
          txSeq := s.txSeq + 1
          slots := s.slots.set s.txSeq.toNat
            { state := .waitAck, payload := P, attempt := 0, deadline := s.tRxAck, elapsed := 0 }
          wireOut := s.wireOut ++ wire (.data s.txSeq 0 s.rxSeq P)
          upOut := s.upOut ++ [.accepted s.txSeq] }) ∧
    (s.remoteNrdy = true →
      exec (.send P) s =
        .next { s with
          txSeq := s.txSeq + 1
          slots := s.slots.set s.txSeq.toNat
            { state := .waitTx, payload := P, attempt := 0,
              deadline := (slotAt s s.txSeq).deadline, elapsed := 0 }
          upOut := s.upOut ++ [.accepted s.txSeq] })

/-- 43_tx_engine.md R216: CANCEL(f) ends the request in a busy slot with CANCELLED and leaves T_RX_ACK, TX_SEQ
and the wire alone; on a FREE slot it is only logged. -/
def Obligations.CancelEndsTheRequest : Prop :=
  ∀ (s : State) (f : SeqNum),
    (busy s f = true →
      exec (.cancel f) s =
        .next { s with
          slots := s.slots.set f.toNat { slotAt s f with state := .free }
          upOut := s.upOut ++ [.complete f .cancelled] }) ∧
    (busy s f = false → exec (.cancel f) s = .next { s with diagOut := s.diagOut ++ [.cancelNoSlot] })

/-! ### Link control -/

/-- RESET_REQ in every state (44_link_control.md R240, R241): every request ends with TRANSPORT_FAILED, the
pause is cleared, the four bytes of RST go out, and the handshake is pending with its timer at 0.
NCP_STATE is kept. -/
def Obligations.ResetRequestEffect : Prop :=
  ∀ s : State,
    exec .resetReq s =
      .next { s with
        resetPending := true
        resetTimer := 0
        remoteNrdy := false
        nrdyTimer := 0
        slots := s.slots.map fun x => { x with state := .free }
        wireOut := s.wireOut ++ [0xC0, 0x38, 0xBC, 0x7E]
        upOut := s.upOut ++ (busyOldestFirst s).map (fun f => .complete f .transportFailed) }

/-- The way back from any state (60_exceptions.md R264, 70_reset_and_hazards.md R292, R293): RESET_REQ and
then an RSTACK, with any code, bring the link up with the sequence numbers at 0, T_RX_ACK at 1600 and no
slot busy, and leave the receive pipeline alone. -/
def Obligations.HandshakeBringsTheLinkUp : Prop :=
  ∀ (s : State) (code : Byte), ∃ t u,
    exec .resetReq s = .next t ∧ exec (.rstack 2 code) t = .next u ∧
    linkUp t = false ∧ linkUp u = true ∧ u.txSeq = 0 ∧ u.rxSeq = 0 ∧ u.tRxAck = 1600 ∧
    (∀ f, busy u f = false) ∧ u.rxBuf = s.rxBuf ∧ u.rxDiscard = s.rxDiscard ∧
    u.wireOut = s.wireOut ++ wire .rst ∧ u.diagOut = s.diagOut ∧
    u.upOut = s.upOut ++ (busyOldestFirst s).map (fun f => .complete f .transportFailed)
      ++ [.rstackRx code, .resetDone code]

/-- CONN_LOST (44_link_control.md R245, R244): a pending handshake fails with RESET_FAILED; from CONNECTED
every request ends with TRANSPORT_FAILED and FAILURE(CONNECTION_LOST) follows. -/
def Obligations.ConnectionLostEffect : Prop :=
  ∀ s : State,
    (s.ncpState = .failed →
      exec .connLost s =
        if s.resetPending then
          .next { s with resetPending := false, resetTimer := 0, upOut := s.upOut ++ [.resetFailed] }
        else .next s) ∧
    (s.ncpState = .connected →
      exec .connLost s =
        .next { s with
          ncpState := .failed
          resetPending := false
          resetTimer := if s.resetPending then 0 else s.resetTimer
          remoteNrdy := false
          nrdyTimer := 0
          slots := s.slots.map fun x => { x with state := .free }
          upOut := s.upOut ++ (if s.resetPending then [.resetFailed] else [])
            ++ (busyOldestFirst s).map (fun f => .complete f .transportFailed)
            ++ [.failure .connectionLost] })

/-! ### TICK -/

/-- A TICK at which nothing expires (60_exceptions.md R270 parts 1 and 2, 43_tx_engine.md R206): every busy
slot counts a millisecond, saturating at 0xFFFF, the running timers count, and nothing else changes. -/
def Obligations.QuietTickCounts : Prop :=
  ∀ s : State,
    (s.resetPending = true → s.resetTimer.toNat + 1 < 5000) →
    (s.remoteNrdy = true → s.nrdyTimer.toNat + 1 < 1000) →
    (∀ f, (slotAt s f).state = .waitAck →
      (slotAt s f).elapsed.toNat + 1 < (slotAt s f).deadline.toNat) →
    exec .tick s =
      .next { s with
        resetTimer := if s.resetPending then s.resetTimer + 1 else s.resetTimer
        nrdyTimer := if s.remoteNrdy then s.nrdyTimer + 1 else s.nrdyTimer
        slots := s.slots.map fun x =>
          if x.state = .free then x
          else { x with elapsed := BitVec.ofNat 16 (min 0xFFFF (x.elapsed.toNat + 1)) } }

/-- A TICK at which one slot times out with an attempt left and nothing else expires (43_tx_engine.md R207,
R208): T_RX_ACK doubles up to 3200, the attempt counts, and the slot's frame goes out again with re_tx 1
and the deadline of the doubled T_RX_ACK, or is held by the pause. That the elapsed count of a slot so held
starts at 0, as in R208, and not at its last transmission, as in R214, is the model's choice (log entry 17). -/
def Obligations.TimeoutRetransmits : Prop :=
  ∀ (s : State) (f : SeqNum),
    s.resetPending = false → (s.remoteNrdy = true → s.nrdyTimer.toNat + 1 < 1000) →
    s.ncpState = .connected →
    (slotAt s f).state = .waitAck → (slotAt s f).deadline.toNat ≤ (slotAt s f).elapsed.toNat + 1 →
    (slotAt s f).attempt.toNat < 3 →
    (∀ g, g ≠ f → (slotAt s g).state = .waitAck →
      (slotAt s g).elapsed.toNat + 1 < (slotAt s g).deadline.toNat) →
    (s.remoteNrdy = false →
      exec .tick s =
        .next { s with
          tRxAck := BitVec.ofNat 12 (min 3200 (2 * s.tRxAck.toNat))
          slots := (s.slots.map elapseSlot).set f.toNat
            { slotAt s f with
              attempt := (slotAt s f).attempt + 1
              deadline := BitVec.ofNat 12 (min 3200 (2 * s.tRxAck.toNat))
              elapsed := 0 }
          wireOut := s.wireOut ++ wire (.data f 1 s.rxSeq (slotAt s f).payload) }) ∧
    (s.remoteNrdy = true →
      exec .tick s =
        .next { s with
          nrdyTimer := s.nrdyTimer + 1
          tRxAck := BitVec.ofNat 12 (min 3200 (2 * s.tRxAck.toNat))
          slots := (s.slots.map elapseSlot).set f.toNat
            { slotAt s f with state := .waitTx, attempt := (slotAt s f).attempt + 1, elapsed := 0 } })

/-- The fourth timeout of a request (43_tx_engine.md R208, R209, R223, 44_link_control.md R244,
60_exceptions.md R265), in a pause, outside it, or as it ends, whatever other slots time out in that TICK:
the older ones are handled first, as retransmissions; then T_RX_ACK doubles, the link enters FAILED, the
culprit ends with ACK_TIMEOUT and every other request with TRANSPORT_FAILED, oldest first, then
FAILURE(ACK_TIMEOUT); no later slot is handled as a timeout. That the elapsed count of an older slot held by the
pause starts at 0 is the model's choice (log entry 17). -/
def Obligations.FourthTimeoutFailsTheLink : Prop :=
  ∀ (s u : State) (f : SeqNum) (older later : List SeqNum),
    (s.resetPending = true → s.resetTimer.toNat + 1 < 5000) →
    (s.remoteNrdy = true → s.nrdyTimer.toNat < 1000) →
    s.ncpState = .connected → u = stateAtTimeouts s →
    timedOutSlots u = older ++ f :: later →
    (∀ g ∈ older, (slotAt u g).attempt.toNat < 3) → (slotAt u f).attempt.toNat = 3 →
    ∃ t, exec .tick s = .next t ∧
      t = { u with
        ncpState := .failed
        remoteNrdy := false
        nrdyTimer := 0
        tRxAck := ackTimeoutAfter (older.length + 1) u.tRxAck
        slots := t.slots
        wireOut := u.wireOut ++ retriedWire u older
        upOut := u.upOut ++ (busyOldestFirst u).map
            (fun g => .complete g (if g = f then .ackTimeout else .transportFailed))
          ++ [.failure .ackTimeout] } ∧
      ∀ g, slotAt t g =
        { (if g ∈ older then retriedSlot u (older.idxOf g) g else slotAt u g) with state := .free }

/-- A TICK at which any number of slots time out, none of them for the fourth time (43_tx_engine.md R207 to
R209, 70_reset_and_hazards.md R305), in a pause, outside it, or as it ends: the slots are handled one at a
time, oldest first; each doubles T_RX_ACK once, counts its attempt and takes as its deadline the T_RX_ACK of
its own doubling; their frames go out in that order, or are held by the pause; every other slot and register
is as part 5 of the TICK found it. That the elapsed count of a slot so held starts at 0 is the model's choice
(log entry 17). -/
def Obligations.TimeoutsDoubleOncePerSlot : Prop :=
  ∀ s u : State,
    (s.resetPending = true → s.resetTimer.toNat + 1 < 5000) →
    (s.remoteNrdy = true → s.nrdyTimer.toNat < 1000) →
    s.ncpState = .connected → u = stateAtTimeouts s →
    (∀ f, timedOut u f = true → (slotAt u f).attempt.toNat < 3) →
    ∃ t, exec .tick s = .next t ∧
      t = { u with
        tRxAck := ackTimeoutAfter (timedOutSlots u).length u.tRxAck
        slots := t.slots
        wireOut := u.wireOut ++ retriedWire u (timedOutSlots u) } ∧
      ∀ f, slotAt t f =
        if timedOut u f then retriedSlot u ((timedOutSlots u).idxOf f) f else slotAt u f

/-- The reset deadline (44_link_control.md R243): on the TICK that brings RESET_TIMER to 5000 the handshake
fails with RESET_FAILED; a link that was CONNECTED enters FAILED with FAILURE(RESET_TIMEOUT), one that was
FAILED reports no FAILURE. No slot is busy then (10_state.md R42). -/
def Obligations.ResetDeadlineFailsTheHandshake : Prop :=
  ∀ s : State, s.resetPending = true → s.resetTimer.toNat = 4999 → s.remoteNrdy = false →
    (∀ f, busy s f = false) →
    (s.ncpState = .failed →
      exec .tick s =
        .next { s with resetPending := false, resetTimer := 0, upOut := s.upOut ++ [.resetFailed] }) ∧
    (s.ncpState = .connected →
      exec .tick s =
        .next { s with
          ncpState := .failed
          resetPending := false
          resetTimer := 0
          nrdyTimer := 0
          upOut := s.upOut ++ [.resetFailed, .failure .resetTimeout] })

/-- The end of the not-ready pause (44_link_control.md R248, R249): on the TICK that brings NRDY_TIMER to
1000 the pause is cleared and every held slot is transmitted, oldest first; a slot on the wire that is not
past its deadline goes on counting. -/
def Obligations.PauseExpiryTransmitsHeldSlots : Prop :=
  ∀ s : State, s.resetPending = false → s.remoteNrdy = true → s.nrdyTimer.toNat = 999 →
    400 ≤ s.tRxAck.toNat →
    (∀ f, (slotAt s f).state = .waitAck →
      (slotAt s f).elapsed.toNat + 1 < (slotAt s f).deadline.toNat) →
    exec .tick s =
      .next { s with
        remoteNrdy := false
        nrdyTimer := 0
        slots := s.slots.map fun x =>
          if x.state = .waitTx then { x with state := .waitAck, deadline := s.tRxAck, elapsed := 0 }
          else elapseSlot x
        wireOut := s.wireOut ++
          ((oldestFirst s.txSeq).filter fun f => (slotAt s f).state = .waitTx).flatMap fun f =>
            wire (.data f (if 0 < (slotAt s f).attempt.toNat then 1 else 0) s.rxSeq (slotAt s f).payload) }

/-! ### The whole machine -/

/-- The invariant holds at power-on. -/
def Obligations.SafeAtReset : Prop := Safe State.reset

/-- Every step keeps the invariant, from every state that has it: at most five busy slots (10_state.md R37,
43_tx_engine.md R218), T_RX_ACK in its range (R219), a busy slot implies the link up (10_state.md R42), the
receive buffer clean and bounded (R38), the timers below their ends (R24, R25). -/
def Obligations.StepKeepsSafe : Prop :=
  ∀ s t : State, Safe s → step s = .next t → Safe t

/-- 43_tx_engine.md R219: T_RX_ACK is 1600 at power-on and every step from a value in 400..3200 leaves one. -/
def Obligations.AckTimeoutStaysInRange : Prop :=
  State.reset.tRxAck.toNat = 1600 ∧
  ∀ s t : State, 400 ≤ s.tRxAck.toNat → s.tRxAck.toNat ≤ 3200 → step s = .next t →
    400 ≤ t.tRxAck.toNat ∧ t.tRxAck.toNat ≤ 3200

/-- Every ACCEPTED(f) is followed by at most one COMPLETE(f, ·), and no COMPLETE(f, ·) stands without one
(43_tx_engine.md R220): the accounts balance at power-on and every step keeps them balanced. -/
def Obligations.EveryRequestCompletesAtMostOnce : Prop :=
  RequestsBalanced State.reset ∧
  ∀ s t : State, RequestsBalanced s → step s = .next t → RequestsBalanced t

/-- 10_state.md R45: the three logs are append-only, no rule reads them, and each is empty at power-on. What
stands in them beforehand changes nothing of what an instruction or a step does, and stays in front. -/
def Obligations.OutputLogsAreAppendedAndUnread : Prop :=
  (∀ (i : Instr) (s : State) (w : Bytes) (u : List UpEvent) (d : List Diag),
    exec i (withEarlierLogs w u d s) = mapNext (withEarlierLogs w u d) (exec i s)) ∧
  (∀ (s : State) (w : Bytes) (u : List UpEvent) (d : List Diag),
    step (withEarlierLogs w u d s) = mapNext (withEarlierLogs w u d) (step s)) ∧
  State.reset.wireOut = [] ∧ State.reset.upOut = [] ∧ State.reset.diagOut = []

/-- RX_SEQ between link resets only advances by one (42_frame_receive.md R177): an instruction keeps it, adds
one with a DELIVER, or, in a pending handshake, sets it to 0. -/
def Obligations.RxSeqAdvancesByOneOrResets : Prop :=
  ∀ (i : Instr) (s t : State), exec i s = .next t →
    t.rxSeq = s.rxSeq ∨
    (t.rxSeq = s.rxSeq + 1 ∧ linkUp s = true ∧ ∃ before P, t.upOut = before ++ [.deliver P]) ∨
    (t.rxSeq = 0 ∧ s.resetPending = true ∧ ∃ before code, t.upOut = before ++ [.resetDone code])

/-- The link leaves FAILED only by a completed handshake (44_link_control.md R246), and FAILURE is reported
exactly once on the way from CONNECTED to FAILED and at no other time (R244, 60_exceptions.md R264). -/
def Obligations.LinkStateChangesAreReported : Prop :=
  ∀ (i : Instr) (s t : State), exec i s = .next t →
    (s.ncpState = .failed → t.ncpState = .connected →
      s.resetPending = true ∧ t.resetPending = false ∧
        ∃ before code, t.upOut = before ++ [.resetDone code]) ∧
    (t.upOut.countP fun e => match e with | .failure _ => true | _ => false) =
      (s.upOut.countP fun e => match e with | .failure _ => true | _ => false) +
        (if s.ncpState = .connected ∧ t.ncpState = .failed then 1 else 0)

/-- While the link is not up the block emits nothing but RST (42_frame_receive.md R179, 44_link_control.md
R241): from a safe state every instruction but RESET_REQ leaves WIRE_OUT as it is. -/
def Obligations.OnlyRstLeavesWhileLinkDown : Prop :=
  ∀ (i : Instr) (s t : State), Safe s → linkUp s = false → i ≠ .resetReq → exec i s = .next t →
    t.wireOut = s.wireOut

/-- The receive pipeline belongs to the byte layer alone (10_state.md R38, R39, 70_reset_and_hazards.md R292):
a frame's rule, a SEND, a CANCEL(f), a RESET_REQ, a TICK and a CONN_LOST leave RX_BUF and RX_DISCARD as
they are, whatever they do to the link. -/
def Obligations.LinkRulesLeaveReceivePipeline : Prop :=
  ∀ (s t : State) (i : Instr),
    ((∃ F : Frame, i = F.toInstr) ∨ (∃ P, i = .send P) ∨ (∃ f, i = .cancel f) ∨ i = .resetReq ∨
      i = .tick ∨ i = .connLost) →
    exec i s = .next t → t.rxBuf = s.rxBuf ∧ t.rxDiscard = s.rxDiscard

/-- Without the pause a request is over after at most 12800 TICKs (60_exceptions.md R271): from a safe state
with no pause, some number of TICKs up to 12800 leaves the slot FREE. -/
def Obligations.RequestEndsWithin12800Ticks : Prop :=
  ∀ (s : State) (f : SeqNum), Safe s → s.remoteNrdy = false →
    ∃ k t, k ≤ 12800 ∧
      runSteps k { s with input := List.replicate 12800 .tick } = .next t ∧ busy t f = false

/-- 10_state.md R35: the order of the rules that act on several slots holds every slot once, in decreasing
age, and ages lie in 1..8, the number allocated last having age 1. -/
def Obligations.SlotsAreOrderedOldestFirst : Prop :=
  ∀ t : SeqNum,
    (∀ f, f ∈ oldestFirst t ∧ (oldestFirst t).count f = 1 ∧ 1 ≤ age t f ∧ age t f ≤ 8 ∧
      age t f = ((t.toNat + 8 - 1 + (8 - f.toNat)) % 8) + 1) ∧
    (oldestFirst t).Pairwise (fun f g => age t g < age t f) ∧ age t (t - 1) = 1

/-- Which events are enabled (60_exceptions.md R271, 43_tx_engine.md R200, R202): every event but a SEND in
every state, and a SEND exactly when R202 does not hold it, that is unless R201 does not reject it and five
slots are busy or slot TX_SEQ is. -/
def Obligations.EveryEventButAHeldSendIsEnabled : Prop :=
  ∀ (p : Config.Params) (s : State),
    (∀ b, enabled p s (.rxByte b) = true) ∧ (∀ f, enabled p s (.cancel f) = true) ∧
    enabled p s .resetReq = true ∧ enabled p s .tick = true ∧ enabled p s .connLost = true ∧
    (∀ P, enabled p s (.send P) = false ↔
      s.ncpState = .connected ∧ s.resetPending = false ∧
      (∀ most, p.maxPayload = some most → P.length ≤ most) ∧
      (5 ≤ busyCount s ∨ busy s s.txSeq = true))
end

