-- ==== Sys2Proof/Laws/State.lean ====
section
/-! SUPPORT. One lemma per field per update of State, each true by rfl, so that no proof unfolds a record
update, and how a slot reads after an update. -/

namespace Sys2Proof.Machine

/-! ### emit -/

@[simp] theorem emit_ncpState (F : Frame) (s : State) : (emit F s).ncpState = s.ncpState := rfl
@[simp] theorem emit_resetPending (F : Frame) (s : State) : (emit F s).resetPending = s.resetPending := rfl
@[simp] theorem emit_resetTimer (F : Frame) (s : State) : (emit F s).resetTimer = s.resetTimer := rfl
@[simp] theorem emit_remoteNrdy (F : Frame) (s : State) : (emit F s).remoteNrdy = s.remoteNrdy := rfl
@[simp] theorem emit_nrdyTimer (F : Frame) (s : State) : (emit F s).nrdyTimer = s.nrdyTimer := rfl
@[simp] theorem emit_txSeq (F : Frame) (s : State) : (emit F s).txSeq = s.txSeq := rfl
@[simp] theorem emit_rxSeq (F : Frame) (s : State) : (emit F s).rxSeq = s.rxSeq := rfl
@[simp] theorem emit_tRxAck (F : Frame) (s : State) : (emit F s).tRxAck = s.tRxAck := rfl
@[simp] theorem emit_slots (F : Frame) (s : State) : (emit F s).slots = s.slots := rfl
@[simp] theorem emit_rxBuf (F : Frame) (s : State) : (emit F s).rxBuf = s.rxBuf := rfl
@[simp] theorem emit_rxDiscard (F : Frame) (s : State) : (emit F s).rxDiscard = s.rxDiscard := rfl
@[simp] theorem emit_wireOut (F : Frame) (s : State) : (emit F s).wireOut = s.wireOut ++ wire F := rfl
@[simp] theorem emit_upOut (F : Frame) (s : State) : (emit F s).upOut = s.upOut := rfl
@[simp] theorem emit_diagOut (F : Frame) (s : State) : (emit F s).diagOut = s.diagOut := rfl
@[simp] theorem emit_input (F : Frame) (s : State) : (emit F s).input = s.input := rfl

/-! ### report -/

@[simp] theorem report_ncpState (e : UpEvent) (s : State) : (report e s).ncpState = s.ncpState := rfl
@[simp] theorem report_resetPending (e : UpEvent) (s : State) : (report e s).resetPending = s.resetPending := rfl
@[simp] theorem report_resetTimer (e : UpEvent) (s : State) : (report e s).resetTimer = s.resetTimer := rfl
@[simp] theorem report_remoteNrdy (e : UpEvent) (s : State) : (report e s).remoteNrdy = s.remoteNrdy := rfl
@[simp] theorem report_nrdyTimer (e : UpEvent) (s : State) : (report e s).nrdyTimer = s.nrdyTimer := rfl
@[simp] theorem report_txSeq (e : UpEvent) (s : State) : (report e s).txSeq = s.txSeq := rfl
@[simp] theorem report_rxSeq (e : UpEvent) (s : State) : (report e s).rxSeq = s.rxSeq := rfl
@[simp] theorem report_tRxAck (e : UpEvent) (s : State) : (report e s).tRxAck = s.tRxAck := rfl
@[simp] theorem report_slots (e : UpEvent) (s : State) : (report e s).slots = s.slots := rfl
@[simp] theorem report_rxBuf (e : UpEvent) (s : State) : (report e s).rxBuf = s.rxBuf := rfl
@[simp] theorem report_rxDiscard (e : UpEvent) (s : State) : (report e s).rxDiscard = s.rxDiscard := rfl
@[simp] theorem report_wireOut (e : UpEvent) (s : State) : (report e s).wireOut = s.wireOut := rfl
@[simp] theorem report_upOut (e : UpEvent) (s : State) : (report e s).upOut = s.upOut ++ [e] := rfl
@[simp] theorem report_diagOut (e : UpEvent) (s : State) : (report e s).diagOut = s.diagOut := rfl
@[simp] theorem report_input (e : UpEvent) (s : State) : (report e s).input = s.input := rfl

/-! ### diag -/

@[simp] theorem diag_ncpState (k : Diag) (s : State) : (diag k s).ncpState = s.ncpState := rfl
@[simp] theorem diag_resetPending (k : Diag) (s : State) : (diag k s).resetPending = s.resetPending := rfl
@[simp] theorem diag_resetTimer (k : Diag) (s : State) : (diag k s).resetTimer = s.resetTimer := rfl
@[simp] theorem diag_remoteNrdy (k : Diag) (s : State) : (diag k s).remoteNrdy = s.remoteNrdy := rfl
@[simp] theorem diag_nrdyTimer (k : Diag) (s : State) : (diag k s).nrdyTimer = s.nrdyTimer := rfl
@[simp] theorem diag_txSeq (k : Diag) (s : State) : (diag k s).txSeq = s.txSeq := rfl
@[simp] theorem diag_rxSeq (k : Diag) (s : State) : (diag k s).rxSeq = s.rxSeq := rfl
@[simp] theorem diag_tRxAck (k : Diag) (s : State) : (diag k s).tRxAck = s.tRxAck := rfl
@[simp] theorem diag_slots (k : Diag) (s : State) : (diag k s).slots = s.slots := rfl
@[simp] theorem diag_rxBuf (k : Diag) (s : State) : (diag k s).rxBuf = s.rxBuf := rfl
@[simp] theorem diag_rxDiscard (k : Diag) (s : State) : (diag k s).rxDiscard = s.rxDiscard := rfl
@[simp] theorem diag_wireOut (k : Diag) (s : State) : (diag k s).wireOut = s.wireOut := rfl
@[simp] theorem diag_upOut (k : Diag) (s : State) : (diag k s).upOut = s.upOut := rfl
@[simp] theorem diag_diagOut (k : Diag) (s : State) : (diag k s).diagOut = s.diagOut ++ [k] := rfl
@[simp] theorem diag_input (k : Diag) (s : State) : (diag k s).input = s.input := rfl

/-! ### setSlot -/

@[simp] theorem setSlot_ncpState (f : SeqNum) (x : Slot) (s : State) : (setSlot f x s).ncpState = s.ncpState := rfl
@[simp] theorem setSlot_resetPending (f : SeqNum) (x : Slot) (s : State) : (setSlot f x s).resetPending = s.resetPending := rfl
@[simp] theorem setSlot_resetTimer (f : SeqNum) (x : Slot) (s : State) : (setSlot f x s).resetTimer = s.resetTimer := rfl
@[simp] theorem setSlot_remoteNrdy (f : SeqNum) (x : Slot) (s : State) : (setSlot f x s).remoteNrdy = s.remoteNrdy := rfl
@[simp] theorem setSlot_nrdyTimer (f : SeqNum) (x : Slot) (s : State) : (setSlot f x s).nrdyTimer = s.nrdyTimer := rfl
@[simp] theorem setSlot_txSeq (f : SeqNum) (x : Slot) (s : State) : (setSlot f x s).txSeq = s.txSeq := rfl
@[simp] theorem setSlot_rxSeq (f : SeqNum) (x : Slot) (s : State) : (setSlot f x s).rxSeq = s.rxSeq := rfl
@[simp] theorem setSlot_tRxAck (f : SeqNum) (x : Slot) (s : State) : (setSlot f x s).tRxAck = s.tRxAck := rfl
@[simp] theorem setSlot_slots (f : SeqNum) (x : Slot) (s : State) : (setSlot f x s).slots = s.slots.set f.toNat x := rfl
@[simp] theorem setSlot_rxBuf (f : SeqNum) (x : Slot) (s : State) : (setSlot f x s).rxBuf = s.rxBuf := rfl
@[simp] theorem setSlot_rxDiscard (f : SeqNum) (x : Slot) (s : State) : (setSlot f x s).rxDiscard = s.rxDiscard := rfl
@[simp] theorem setSlot_wireOut (f : SeqNum) (x : Slot) (s : State) : (setSlot f x s).wireOut = s.wireOut := rfl
@[simp] theorem setSlot_upOut (f : SeqNum) (x : Slot) (s : State) : (setSlot f x s).upOut = s.upOut := rfl
@[simp] theorem setSlot_diagOut (f : SeqNum) (x : Slot) (s : State) : (setSlot f x s).diagOut = s.diagOut := rfl
@[simp] theorem setSlot_input (f : SeqNum) (x : Slot) (s : State) : (setSlot f x s).input = s.input := rfl

/-! ### clearPause -/

@[simp] theorem clearPause_ncpState (s : State) : (clearPause s).ncpState = s.ncpState := rfl
@[simp] theorem clearPause_resetPending (s : State) : (clearPause s).resetPending = s.resetPending := rfl
@[simp] theorem clearPause_resetTimer (s : State) : (clearPause s).resetTimer = s.resetTimer := rfl
@[simp] theorem clearPause_remoteNrdy (s : State) : (clearPause s).remoteNrdy = false := rfl
@[simp] theorem clearPause_nrdyTimer (s : State) : (clearPause s).nrdyTimer = 0 := rfl
@[simp] theorem clearPause_txSeq (s : State) : (clearPause s).txSeq = s.txSeq := rfl
@[simp] theorem clearPause_rxSeq (s : State) : (clearPause s).rxSeq = s.rxSeq := rfl
@[simp] theorem clearPause_tRxAck (s : State) : (clearPause s).tRxAck = s.tRxAck := rfl
@[simp] theorem clearPause_slots (s : State) : (clearPause s).slots = s.slots := rfl
@[simp] theorem clearPause_rxBuf (s : State) : (clearPause s).rxBuf = s.rxBuf := rfl
@[simp] theorem clearPause_rxDiscard (s : State) : (clearPause s).rxDiscard = s.rxDiscard := rfl
@[simp] theorem clearPause_wireOut (s : State) : (clearPause s).wireOut = s.wireOut := rfl
@[simp] theorem clearPause_upOut (s : State) : (clearPause s).upOut = s.upOut := rfl
@[simp] theorem clearPause_diagOut (s : State) : (clearPause s).diagOut = s.diagOut := rfl
@[simp] theorem clearPause_input (s : State) : (clearPause s).input = s.input := rfl

/-! ### endDiscard -/

@[simp] theorem endDiscard_ncpState (s : State) : (endDiscard s).ncpState = s.ncpState := rfl
@[simp] theorem endDiscard_resetPending (s : State) : (endDiscard s).resetPending = s.resetPending := rfl
@[simp] theorem endDiscard_resetTimer (s : State) : (endDiscard s).resetTimer = s.resetTimer := rfl
@[simp] theorem endDiscard_remoteNrdy (s : State) : (endDiscard s).remoteNrdy = s.remoteNrdy := rfl
@[simp] theorem endDiscard_nrdyTimer (s : State) : (endDiscard s).nrdyTimer = s.nrdyTimer := rfl
@[simp] theorem endDiscard_txSeq (s : State) : (endDiscard s).txSeq = s.txSeq := rfl
@[simp] theorem endDiscard_rxSeq (s : State) : (endDiscard s).rxSeq = s.rxSeq := rfl
@[simp] theorem endDiscard_tRxAck (s : State) : (endDiscard s).tRxAck = s.tRxAck := rfl
@[simp] theorem endDiscard_slots (s : State) : (endDiscard s).slots = s.slots := rfl
@[simp] theorem endDiscard_rxBuf (s : State) : (endDiscard s).rxBuf = s.rxBuf := rfl
@[simp] theorem endDiscard_rxDiscard (s : State) : (endDiscard s).rxDiscard = false := rfl
@[simp] theorem endDiscard_wireOut (s : State) : (endDiscard s).wireOut = s.wireOut := rfl
@[simp] theorem endDiscard_upOut (s : State) : (endDiscard s).upOut = s.upOut := rfl
@[simp] theorem endDiscard_diagOut (s : State) : (endDiscard s).diagOut = s.diagOut := rfl
@[simp] theorem endDiscard_input (s : State) : (endDiscard s).input = s.input := rfl

/-! ### Slots read after an update -/

@[simp] theorem slotAt_emit (F : Frame) (s : State) (g : SeqNum) : slotAt (emit F s) g = slotAt s g := rfl
@[simp] theorem slotAt_report (e : UpEvent) (s : State) (g : SeqNum) : slotAt (report e s) g = slotAt s g := rfl
@[simp] theorem slotAt_diag (k : Diag) (s : State) (g : SeqNum) : slotAt (diag k s) g = slotAt s g := rfl
@[simp] theorem slotAt_clearPause (s : State) (g : SeqNum) : slotAt (clearPause s) g = slotAt s g := rfl
@[simp] theorem slotAt_endDiscard (s : State) (g : SeqNum) : slotAt (endDiscard s) g = slotAt s g := rfl

/-- Reading a slot depends on the slots alone. -/
theorem slotAt_congr {s t : State} (h : s.slots = t.slots) (f : SeqNum) : slotAt s f = slotAt t f := by
  simp [slotAt, h]

/-- A slot reads the value written to it. -/
@[simp] theorem slotAt_setSlot_self (f : SeqNum) (x : Slot) (s : State) : slotAt (setSlot f x s) f = x := by
  simp [slotAt]

/-- A write to one slot leaves every other slot alone. -/
theorem slotAt_setSlot_ne {f g : SeqNum} (h : f ≠ g) (x : Slot) (s : State) :
    slotAt (setSlot f x s) g = slotAt s g := by
  have hn : f.toNat ≠ g.toNat := fun e => h (BitVec.eq_of_toNat_eq e)
  simp [slotAt, Vector.getElem_set_ne _ _ hn]

theorem slotAt_setSlot (f g : SeqNum) (x : Slot) (s : State) :
    slotAt (setSlot f x s) g = if f = g then x else slotAt s g := by
  split
  · next h => subst h; exact slotAt_setSlot_self f x s
  · next h => exact slotAt_setSlot_ne h x s

/-- The slots are equal when every slot reads the same. -/
theorem slots_ext {s t : State} (h : ∀ f, slotAt s f = slotAt t f) : s.slots = t.slots := by
  apply Vector.ext
  intro i hi
  have := h (BitVec.ofNat 3 i)
  have hm : i % 8 = i := Nat.mod_eq_of_lt hi
  simpa [slotAt, hm] using this

/-- Mapping a function over the slots maps it at every slot. -/
theorem slotAt_map (g : Slot → Slot) (s : State) (f : SeqNum) :
    slotAt { s with slots := s.slots.map g } f = g (slotAt s f) := by
  simp [slotAt]

/-- Two slot vectors are equal when they hold the same slot at every number. -/
theorem slotVector_ext {V W : Vector Slot 8} (h : ∀ f : SeqNum, V[f.toNat] = W[f.toNat]) : V = W := by
  apply Vector.ext
  intro i hi
  have := h (BitVec.ofNat 3 i)
  have hm : i % 8 = i := Nat.mod_eq_of_lt hi
  simpa [hm] using this

/-- A mapped slot vector at a number. -/
theorem slotVector_map (g : Slot → Slot) (V : Vector Slot 8) (f : SeqNum) :
    (V.map g)[f.toNat] = g V[f.toNat] := by
  simp

end Sys2Proof.Machine
end

