-- ==== Sys2Proof/Laws/Ops.lean ====
section
/-! SUPPORT. What each shared operation can do, said once: its fields, the slots it leaves, and for the
operations over several slots one equation. -/

namespace Sys2Proof.Machine

/-! ### release -/

@[simp] theorem release_ncpState (f : SeqNum) (status : Status) (s : State) :
    (release f status s).ncpState = s.ncpState := rfl
@[simp] theorem release_resetPending (f : SeqNum) (status : Status) (s : State) :
    (release f status s).resetPending = s.resetPending := rfl
@[simp] theorem release_resetTimer (f : SeqNum) (status : Status) (s : State) :
    (release f status s).resetTimer = s.resetTimer := rfl
@[simp] theorem release_remoteNrdy (f : SeqNum) (status : Status) (s : State) :
    (release f status s).remoteNrdy = s.remoteNrdy := rfl
@[simp] theorem release_nrdyTimer (f : SeqNum) (status : Status) (s : State) :
    (release f status s).nrdyTimer = s.nrdyTimer := rfl
@[simp] theorem release_txSeq (f : SeqNum) (status : Status) (s : State) :
    (release f status s).txSeq = s.txSeq := rfl
@[simp] theorem release_rxSeq (f : SeqNum) (status : Status) (s : State) :
    (release f status s).rxSeq = s.rxSeq := rfl
@[simp] theorem release_tRxAck (f : SeqNum) (status : Status) (s : State) :
    (release f status s).tRxAck = s.tRxAck := rfl
@[simp] theorem release_slots (f : SeqNum) (status : Status) (s : State) :
    (release f status s).slots = s.slots.set f.toNat { slotAt s f with state := .free } := rfl
@[simp] theorem release_rxBuf (f : SeqNum) (status : Status) (s : State) :
    (release f status s).rxBuf = s.rxBuf := rfl
@[simp] theorem release_rxDiscard (f : SeqNum) (status : Status) (s : State) :
    (release f status s).rxDiscard = s.rxDiscard := rfl
@[simp] theorem release_wireOut (f : SeqNum) (status : Status) (s : State) :
    (release f status s).wireOut = s.wireOut := rfl
@[simp] theorem release_upOut (f : SeqNum) (status : Status) (s : State) :
    (release f status s).upOut = s.upOut ++ [.complete f status] := rfl
@[simp] theorem release_diagOut (f : SeqNum) (status : Status) (s : State) :
    (release f status s).diagOut = s.diagOut := rfl
@[simp] theorem release_input (f : SeqNum) (status : Status) (s : State) :
    (release f status s).input = s.input := rfl

/-! ### transmitSlot -/

@[simp] theorem transmitSlot_ncpState (f : SeqNum) (s : State) : (transmitSlot f s).ncpState = s.ncpState := rfl
@[simp] theorem transmitSlot_resetPending (f : SeqNum) (s : State) :
    (transmitSlot f s).resetPending = s.resetPending := rfl
@[simp] theorem transmitSlot_resetTimer (f : SeqNum) (s : State) :
    (transmitSlot f s).resetTimer = s.resetTimer := rfl
@[simp] theorem transmitSlot_remoteNrdy (f : SeqNum) (s : State) :
    (transmitSlot f s).remoteNrdy = s.remoteNrdy := rfl
@[simp] theorem transmitSlot_nrdyTimer (f : SeqNum) (s : State) :
    (transmitSlot f s).nrdyTimer = s.nrdyTimer := rfl
@[simp] theorem transmitSlot_txSeq (f : SeqNum) (s : State) : (transmitSlot f s).txSeq = s.txSeq := rfl
@[simp] theorem transmitSlot_rxSeq (f : SeqNum) (s : State) : (transmitSlot f s).rxSeq = s.rxSeq := rfl
@[simp] theorem transmitSlot_tRxAck (f : SeqNum) (s : State) : (transmitSlot f s).tRxAck = s.tRxAck := rfl
@[simp] theorem transmitSlot_slots (f : SeqNum) (s : State) : (transmitSlot f s).slots = s.slots.set f.toNat
      { slotAt s f with deadline := s.tRxAck, elapsed := 0, state := .waitAck } := rfl
@[simp] theorem transmitSlot_rxBuf (f : SeqNum) (s : State) : (transmitSlot f s).rxBuf = s.rxBuf := rfl
@[simp] theorem transmitSlot_rxDiscard (f : SeqNum) (s : State) :
    (transmitSlot f s).rxDiscard = s.rxDiscard := rfl
@[simp] theorem transmitSlot_wireOut (f : SeqNum) (s : State) :
    (transmitSlot f s).wireOut = s.wireOut ++ wire (slotFrame f s) := rfl
@[simp] theorem transmitSlot_upOut (f : SeqNum) (s : State) : (transmitSlot f s).upOut = s.upOut := rfl
@[simp] theorem transmitSlot_diagOut (f : SeqNum) (s : State) : (transmitSlot f s).diagOut = s.diagOut := rfl
@[simp] theorem transmitSlot_input (f : SeqNum) (s : State) : (transmitSlot f s).input = s.input := rfl

/-! ### holdSlot -/

@[simp] theorem holdSlot_ncpState (f : SeqNum) (s : State) : (holdSlot f s).ncpState = s.ncpState := rfl
@[simp] theorem holdSlot_resetPending (f : SeqNum) (s : State) :
    (holdSlot f s).resetPending = s.resetPending := rfl
@[simp] theorem holdSlot_resetTimer (f : SeqNum) (s : State) : (holdSlot f s).resetTimer = s.resetTimer := rfl
@[simp] theorem holdSlot_remoteNrdy (f : SeqNum) (s : State) : (holdSlot f s).remoteNrdy = s.remoteNrdy := rfl
@[simp] theorem holdSlot_nrdyTimer (f : SeqNum) (s : State) : (holdSlot f s).nrdyTimer = s.nrdyTimer := rfl
@[simp] theorem holdSlot_txSeq (f : SeqNum) (s : State) : (holdSlot f s).txSeq = s.txSeq := rfl
@[simp] theorem holdSlot_rxSeq (f : SeqNum) (s : State) : (holdSlot f s).rxSeq = s.rxSeq := rfl
@[simp] theorem holdSlot_tRxAck (f : SeqNum) (s : State) : (holdSlot f s).tRxAck = s.tRxAck := rfl
@[simp] theorem holdSlot_slots (f : SeqNum) (s : State) :
    (holdSlot f s).slots = s.slots.set f.toNat { slotAt s f with state := .waitTx, elapsed := 0 } := rfl
@[simp] theorem holdSlot_rxBuf (f : SeqNum) (s : State) : (holdSlot f s).rxBuf = s.rxBuf := rfl
@[simp] theorem holdSlot_rxDiscard (f : SeqNum) (s : State) : (holdSlot f s).rxDiscard = s.rxDiscard := rfl
@[simp] theorem holdSlot_wireOut (f : SeqNum) (s : State) : (holdSlot f s).wireOut = s.wireOut := rfl
@[simp] theorem holdSlot_upOut (f : SeqNum) (s : State) : (holdSlot f s).upOut = s.upOut := rfl
@[simp] theorem holdSlot_diagOut (f : SeqNum) (s : State) : (holdSlot f s).diagOut = s.diagOut := rfl
@[simp] theorem holdSlot_input (f : SeqNum) (s : State) : (holdSlot f s).input = s.input := rfl

/-! ### completeOk -/

@[simp] theorem completeOk_ncpState (f : SeqNum) (s : State) : (completeOk f s).ncpState = s.ncpState := rfl
@[simp] theorem completeOk_resetPending (f : SeqNum) (s : State) :
    (completeOk f s).resetPending = s.resetPending := rfl
@[simp] theorem completeOk_resetTimer (f : SeqNum) (s : State) :
    (completeOk f s).resetTimer = s.resetTimer := rfl
@[simp] theorem completeOk_remoteNrdy (f : SeqNum) (s : State) :
    (completeOk f s).remoteNrdy = s.remoteNrdy := rfl
@[simp] theorem completeOk_nrdyTimer (f : SeqNum) (s : State) : (completeOk f s).nrdyTimer = s.nrdyTimer := rfl
@[simp] theorem completeOk_txSeq (f : SeqNum) (s : State) : (completeOk f s).txSeq = s.txSeq := rfl
@[simp] theorem completeOk_rxSeq (f : SeqNum) (s : State) : (completeOk f s).rxSeq = s.rxSeq := rfl
@[simp] theorem completeOk_tRxAck (f : SeqNum) (s : State) :
    (completeOk f s).tRxAck = rttUpdate s.tRxAck (slotAt s f).elapsed := rfl
@[simp] theorem completeOk_slots (f : SeqNum) (s : State) :
    (completeOk f s).slots = s.slots.set f.toNat { slotAt s f with state := .free } := rfl
@[simp] theorem completeOk_rxBuf (f : SeqNum) (s : State) : (completeOk f s).rxBuf = s.rxBuf := rfl
@[simp] theorem completeOk_rxDiscard (f : SeqNum) (s : State) : (completeOk f s).rxDiscard = s.rxDiscard := rfl
@[simp] theorem completeOk_wireOut (f : SeqNum) (s : State) : (completeOk f s).wireOut = s.wireOut := rfl
@[simp] theorem completeOk_upOut (f : SeqNum) (s : State) :
    (completeOk f s).upOut = s.upOut ++ [.complete f .ok] := rfl
@[simp] theorem completeOk_diagOut (f : SeqNum) (s : State) : (completeOk f s).diagOut = s.diagOut := rfl
@[simp] theorem completeOk_input (f : SeqNum) (s : State) : (completeOk f s).input = s.input := rfl

/-! ### failHandshake -/

@[simp] theorem failHandshake_ncpState (s : State) : (failHandshake s).ncpState = s.ncpState := rfl
@[simp] theorem failHandshake_resetPending (s : State) : (failHandshake s).resetPending = false := rfl
@[simp] theorem failHandshake_resetTimer (s : State) : (failHandshake s).resetTimer = 0 := rfl
@[simp] theorem failHandshake_remoteNrdy (s : State) : (failHandshake s).remoteNrdy = s.remoteNrdy := rfl
@[simp] theorem failHandshake_nrdyTimer (s : State) : (failHandshake s).nrdyTimer = s.nrdyTimer := rfl
@[simp] theorem failHandshake_txSeq (s : State) : (failHandshake s).txSeq = s.txSeq := rfl
@[simp] theorem failHandshake_rxSeq (s : State) : (failHandshake s).rxSeq = s.rxSeq := rfl
@[simp] theorem failHandshake_tRxAck (s : State) : (failHandshake s).tRxAck = s.tRxAck := rfl
@[simp] theorem failHandshake_slots (s : State) : (failHandshake s).slots = s.slots := rfl
@[simp] theorem failHandshake_rxBuf (s : State) : (failHandshake s).rxBuf = s.rxBuf := rfl
@[simp] theorem failHandshake_rxDiscard (s : State) : (failHandshake s).rxDiscard = s.rxDiscard := rfl
@[simp] theorem failHandshake_wireOut (s : State) : (failHandshake s).wireOut = s.wireOut := rfl
@[simp] theorem failHandshake_upOut (s : State) : (failHandshake s).upOut = s.upOut ++ [.resetFailed] := rfl
@[simp] theorem failHandshake_diagOut (s : State) : (failHandshake s).diagOut = s.diagOut := rfl
@[simp] theorem failHandshake_input (s : State) : (failHandshake s).input = s.input := rfl

/-! ### Slots after one operation -/

theorem slotAt_release (f g : SeqNum) (status : Status) (s : State) :
    slotAt (release f status s) g = if f = g then { slotAt s f with state := .free } else slotAt s g := by
  simp [release, slotAt_setSlot]

theorem slotAt_completeOk (f g : SeqNum) (s : State) :
    slotAt (completeOk f s) g = if f = g then { slotAt s f with state := .free } else slotAt s g := by
  unfold completeOk
  rw [slotAt_release]
  rfl

theorem slotAt_transmitSlot (f g : SeqNum) (s : State) :
    slotAt (transmitSlot f s) g =
      if f = g then { slotAt s f with deadline := s.tRxAck, elapsed := 0, state := .waitAck }
      else slotAt s g := by
  simp [transmitSlot, slotAt_setSlot]

theorem slotAt_holdSlot (f g : SeqNum) (s : State) :
    slotAt (holdSlot f s) g =
      if f = g then { slotAt s f with state := .waitTx, elapsed := 0 } else slotAt s g := by
  simp [holdSlot, slotAt_setSlot]

/-- A slot is busy exactly when its state is not FREE. -/
theorem busy_iff (s : State) (f : SeqNum) : busy s f = true ↔ (slotAt s f).state ≠ .free := by
  simp [busy]

theorem busy_eq_false_iff (s : State) (f : SeqNum) : busy s f = false ↔ (slotAt s f).state = .free := by
  simp [busy]

/-- A released slot is FREE, every other slot is as busy as before. -/
theorem busy_release (f g : SeqNum) (status : Status) (s : State) :
    busy (release f status s) g = (!decide (f = g) && busy s g) := by
  simp only [busy, slotAt_release]
  by_cases h : f = g <;> simp [h]

/-! ### The order of the slots -/

/-- Every slot number stands in the order. -/
theorem mem_oldestFirst (t f : SeqNum) : f ∈ oldestFirst t := by
  revert t f; decide

/-- No slot number stands twice in the order. -/
theorem oldestFirst_nodup (t : SeqNum) : (oldestFirst t).Nodup := by
  revert t; decide

/-- The busy slots are exactly the members of the list the rules run over. -/
theorem mem_busyOldestFirst (s : State) (f : SeqNum) : f ∈ busyOldestFirst s ↔ busy s f = true := by
  simp [busyOldestFirst, mem_oldestFirst]

theorem busyOldestFirst_nodup (s : State) : (busyOldestFirst s).Nodup :=
  (oldestFirst_nodup _).filter _

/-! ### Operations over several slots -/

/-- A property that every single operation keeps is kept by running it over a list of slots. -/
theorem foldl_keeps {P : State → Prop} {op : SeqNum → State → State} (h : ∀ f t, P t → P (op f t)) :
    ∀ (l : List SeqNum) (s : State), P s → P (l.foldl (fun t f => op f t) s)
  | [], _, hs => hs
  | f :: l, s, hs => foldl_keeps h l (op f s) (h f s hs)

/-- The slots after a list of releases: the listed ones are FREE, the others as before. -/
theorem slotAt_foldl_release (status : SeqNum → Status) (g : SeqNum) :
    ∀ (l : List SeqNum) (s : State),
      slotAt (l.foldl (fun t f => release f (status f) t) s) g =
        if g ∈ l then { slotAt s g with state := .free } else slotAt s g
  | [], s => by simp
  | f :: l, s => by
    rw [List.foldl_cons, slotAt_foldl_release status g l, slotAt_release]
    by_cases hf : f = g
    · subst hf; by_cases hg : f ∈ l <;> simp [hg]
    · have hf' : g ≠ f := fun h => hf h.symm
      by_cases hg : g ∈ l <;> simp [hf, hf', hg]

/-- A list of releases changes the slots and UP_OUT alone, and reports one COMPLETE a slot, in order. -/
theorem foldl_release_eq (status : SeqNum → Status) :
    ∀ (l : List SeqNum) (s : State),
      l.foldl (fun t f => release f (status f) t) s =
        { s with
          slots := (l.foldl (fun t f => release f (status f) t) s).slots
          upOut := s.upOut ++ l.map fun f => .complete f (status f) }
  | [], s => by simp
  | f :: l, s => by
    rw [List.foldl_cons, foldl_release_eq status l]
    ext1 <;> simp

/-- Releasing every busy slot: all slots FREE, their other registers kept, one COMPLETE for each slot that
was busy, oldest first, and nothing else changed. -/
theorem releaseAll_eq (status : SeqNum → Status) (s : State) :
    releaseAll status s =
      { s with
        slots := s.slots.map fun x => { x with state := .free }
        upOut := s.upOut ++ (busyOldestFirst s).map fun f => .complete f (status f) } := by
  unfold releaseAll
  rw [foldl_release_eq]
  congr 1
  show _ = State.slots { s with slots := s.slots.map fun x => { x with state := SlotState.free } }
  refine slots_ext fun f => ?_
  rw [slotAt_foldl_release, slotAt_map]
  split
  · rfl
  · next h =>
    have hb : (slotAt s f).state = .free := by
      simpa [mem_busyOldestFirst, busy_eq_false_iff] using h
    ext1 <;> simp [hb]

/-- After releasing every slot no slot is busy. -/
theorem busy_releaseAll (status : SeqNum → Status) (s : State) (f : SeqNum) :
    busy (releaseAll status s) f = false := by
  rw [releaseAll_eq, busy_eq_false_iff]
  show (slotAt { s with slots := s.slots.map fun x => { x with state := SlotState.free } } f).state = _
  rw [slotAt_map]

/-- ENTER_FAILED from CONNECTED, whole (44_link_control.md R244). -/
theorem enterFailed_of_connected (cause : FailCause) (culprit : Option SeqNum) (s : State)
    (h : s.ncpState = .connected) :
    enterFailed cause culprit s =
      { s with
        ncpState := .failed
        slots := s.slots.map fun x => { x with state := .free }
        remoteNrdy := false
        nrdyTimer := 0
        upOut := s.upOut ++ (busyOldestFirst s).map (fun f => .complete f (failStatus culprit f))
          ++ [.failure cause] } := by
  simp [enterFailed, h, releaseAll_eq, report, clearPause, busyOldestFirst]
  rfl

/-- ENTER_FAILED in FAILED has no effect (R244). -/
theorem enterFailed_of_failed (cause : FailCause) (culprit : Option SeqNum) (s : State)
    (h : s.ncpState = .failed) : enterFailed cause culprit s = s := by
  simp [enterFailed, h]

/-- HANDSHAKE_COMPLETE, whole (R242). -/
theorem handshakeComplete_eq (code : Byte) (s : State) :
    handshakeComplete code s =
      { s with
        ncpState := .connected
        resetPending := false
        resetTimer := 0
        remoteNrdy := false
        nrdyTimer := 0
        txSeq := 0
        rxSeq := 0
        tRxAck := 1600
        slots := s.slots.map fun x => { x with state := .free }
        upOut := s.upOut ++ (busyOldestFirst s).map (fun f => .complete f .transportFailed)
          ++ [.resetDone code] } := by
  simp [handshakeComplete, releaseAll_eq, report, clearPause, busyOldestFirst, Config.tInit]
  rfl

/-- RESET_REQ, whole (R240). -/
theorem resetRequest_eq (s : State) :
    resetRequest s =
      { s with
        resetPending := true
        resetTimer := 0
        remoteNrdy := false
        nrdyTimer := 0
        slots := s.slots.map fun x => { x with state := .free }
        wireOut := s.wireOut ++ wire .rst
        upOut := s.upOut ++ (busyOldestFirst s).map (fun f => .complete f .transportFailed) } := by
  simp [resetRequest, releaseAll_eq, emit, clearPause]

/-! ### Timeouts of one TICK -/

/-- A property that every timeout keeps is kept by all the timeouts of a TICK. -/
theorem runTimeouts_keeps {P : State → Prop} (h : ∀ f t, timedOut t f = true → P t → P (timeout f t)) :
    ∀ (l : List SeqNum) (s : State), P s → P (runTimeouts l s)
  | [], _, hs => hs
  | f :: l, s, hs => by
    unfold runTimeouts
    by_cases ht : timedOut s f = true
    · simp only [ht, if_true]
      split
      · exact h f s ht hs
      · exact runTimeouts_keeps h l _ (h f s ht hs)
    · simp only [ht]
      exact runTimeouts_keeps h l s hs

/-- With no slot past its deadline a TICK times nothing out. -/
theorem runTimeouts_of_none :
    ∀ (l : List SeqNum) (s : State), (∀ f ∈ l, timedOut s f = false) → runTimeouts l s = s
  | [], _, _ => rfl
  | f :: l, s, h => by
    unfold runTimeouts
    simp only [h f (by simp), Bool.false_eq_true, if_false]
    exact runTimeouts_of_none l s fun g hg => h g (by simp [hg])

/-! ### Completions over several slots -/

/-- A list of COMPLETE_OK changes T_RX_ACK, the slots and UP_OUT alone, one completion per listed slot. -/
theorem foldl_completeOk_frame :
    ∀ (l : List SeqNum) (s : State),
      l.foldl (fun t f => completeOk f t) s =
        { s with
          tRxAck := (l.foldl (fun t f => completeOk f t) s).tRxAck
          slots := (l.foldl (fun t f => completeOk f t) s).slots
          upOut := s.upOut ++ l.map fun f => .complete f .ok }
  | [], s => by simp
  | f :: l, s => by
    rw [List.foldl_cons, foldl_completeOk_frame l]
    ext1 <;> simp

/-- The slots after a list of COMPLETE_OK: the listed ones are FREE, the others as before. -/
theorem slotAt_foldl_completeOk (g : SeqNum) :
    ∀ (l : List SeqNum) (s : State),
      slotAt (l.foldl (fun t f => completeOk f t) s) g =
        if g ∈ l then { slotAt s g with state := .free } else slotAt s g
  | [], s => by simp
  | f :: l, s => by
    rw [List.foldl_cons, slotAt_foldl_completeOk g l, slotAt_completeOk]
    by_cases hf : f = g
    · subst hf; by_cases hg : f ∈ l <;> simp [hg]
    · have hf' : g ≠ f := fun h => hf h.symm
      by_cases hg : g ∈ l <;> simp [hf, hf', hg]

/-- ACK_PROCESS leaves the link, the sequence numbers, the pause, the receive pipeline and WIRE_OUT alone. -/
theorem ackProcess_frame (p : Config.Params) (a : SeqNum) (s : State) :
    ackProcess p a s =
      { s with
        tRxAck := (ackProcess p a s).tRxAck
        slots := (ackProcess p a s).slots
        upOut := (ackProcess p a s).upOut
        diagOut := (ackProcess p a s).diagOut } := by
  unfold ackProcess
  split
  · split
    · rfl
    · rw [foldl_completeOk_frame]
  · rfl

/-! ### The end of the not-ready pause -/

/-- The slots after a list of transmissions: the listed ones wait for their acknowledgement. -/
theorem slotAt_foldl_transmitSlot (g : SeqNum) :
    ∀ (l : List SeqNum) (s : State),
      slotAt (l.foldl (fun t f => transmitSlot f t) s) g =
        if g ∈ l then { slotAt s g with state := .waitAck, deadline := s.tRxAck, elapsed := 0 }
        else slotAt s g
  | [], s => by simp
  | f :: l, s => by
    rw [List.foldl_cons, slotAt_foldl_transmitSlot g l, slotAt_transmitSlot]
    by_cases hf : f = g
    · subst hf; by_cases hg : f ∈ l <;> simp [hg]
    · have hf' : g ≠ f := fun h => hf h.symm
      by_cases hg : g ∈ l <;> simp [hf, hf', hg]

/-- A list of transmissions of different slots changes the slots and WIRE_OUT alone: the frames go out in
the order of the list, each as its slot stood before. -/
theorem foldl_transmitSlot_frame :
    ∀ (l : List SeqNum) (s : State), l.Nodup →
      l.foldl (fun t f => transmitSlot f t) s =
        { s with
          slots := (l.foldl (fun t f => transmitSlot f t) s).slots
          wireOut := s.wireOut ++ l.flatMap fun f => wire (slotFrame f s) }
  | [], s, _ => by simp
  | f :: l, s, h => by
    rw [List.nodup_cons] at h
    rw [List.foldl_cons, foldl_transmitSlot_frame l _ h.2]
    have hl : (l.flatMap fun g => wire (slotFrame g (transmitSlot f s))) =
        l.flatMap fun g => wire (slotFrame g s) := by
      refine List.flatMap_congr fun g hg => ?_
      have hne : f ≠ g := by rintro rfl; exact h.1 hg
      simp [slotFrame, slotAt_transmitSlot, hne]
    ext1 <;> simp [hl]

/-- RESUME, whole (44_link_control.md R249). -/
theorem resume_eq (s : State) :
    resume s =
      { s with
        slots := s.slots.map fun x =>
          if x.state = .waitTx then { x with state := .waitAck, deadline := s.tRxAck, elapsed := 0 } else x
        wireOut := s.wireOut ++
          ((oldestFirst s.txSeq).filter fun f => (slotAt s f).state == .waitTx).flatMap fun f =>
            wire (slotFrame f s) } := by
  unfold resume
  rw [foldl_transmitSlot_frame _ _ ((oldestFirst_nodup _).filter _)]
  have hs : (((oldestFirst s.txSeq).filter fun f => (slotAt s f).state == .waitTx).foldl
      (fun t f => transmitSlot f t) s).slots =
      s.slots.map fun x =>
        if x.state = .waitTx then { x with state := .waitAck, deadline := s.tRxAck, elapsed := 0 } else x := by
    refine slotVector_ext fun f => ?_
    rw [slotVector_map]
    refine (slotAt_foldl_transmitSlot f _ s).trans ?_
    simp [mem_oldestFirst]
    rfl
  rw [hs]

/-- The slots after RESUME. -/
theorem slotAt_resume (s : State) (f : SeqNum) :
    slotAt (resume s) f =
      if (slotAt s f).state = .waitTx then
        { slotAt s f with state := .waitAck, deadline := s.tRxAck, elapsed := 0 }
      else slotAt s f := by
  rw [resume_eq]
  exact slotVector_map _ s.slots f

/-! ### The window -/

/-- The busy slots counted by their numbers. -/
theorem busyCount_eq (s : State) (t : SeqNum) : busyCount s = (oldestFirst t).countP (busy s) := by
  have hl : s.slots.toList = ([0, 1, 2, 3, 4, 5, 6, 7] : List SeqNum).map (slotAt s) := by
    unfold slotAt
    generalize s.slots = V
    obtain ⟨⟨l⟩, hl⟩ := V
    simp at hl
    match l, hl with
    | [a, b, c, d, e, f, g, h], _ => rfl
  have hp : (([0, 1, 2, 3, 4, 5, 6, 7] : List SeqNum)).Perm (oldestFirst t) := by
    revert t; decide
  rw [← hp.countP_eq]
  unfold busyCount
  rw [hl, List.countP_map]
  rfl

/-- Fewer busy slots, a lower count. -/
theorem busyCount_mono {s t : State} (h : ∀ f, busy t f = true → busy s f = true) :
    busyCount t ≤ busyCount s := by
  rw [busyCount_eq s 0, busyCount_eq t 0]
  exact List.countP_mono_left fun f _ => h f

/-- One slot more can be busy, the count rises by one at most. -/
theorem busyCount_le_succ {s t : State} (x : SeqNum) (hx : busy s x = false)
    (h : ∀ f, f ≠ x → busy t f = true → busy s f = true) : busyCount t ≤ busyCount s + 1 := by
  rw [busyCount_eq t x, busyCount_eq s x]
  have hn := oldestFirst_nodup x
  have he : oldestFirst x = x :: (oldestFirst x).tail := rfl
  rw [he] at hn ⊢
  rw [List.nodup_cons] at hn
  simp only [List.countP_cons, hx]
  have := List.countP_mono_left (l := (oldestFirst x).tail) (p := busy t) (q := busy s)
    fun f hf => h f (by rintro rfl; exact hn.1 hf)
  simp
  split <;> omega

/-! ### The timer arithmetic -/

/-- A success leaves T_RX_ACK in its range (43_tx_engine.md R210, R219). -/
theorem rttUpdate_range (t : BitVec 12) (d : BitVec 16) :
    400 ≤ (rttUpdate t d).toNat ∧ (rttUpdate t d).toNat ≤ 3200 := by
  simp only [rttUpdate, clamp, Config.tMin, Config.tMax, BitVec.toNat_ofNat]
  generalize (7 * t.toNat + 4 * d.toNat) / 8 = n
  rw [Nat.mod_eq_of_lt (by omega)]
  omega

/-- The back-off, as a number (R208). -/
theorem backoff_toNat (t : BitVec 12) : (backoff t).toNat = min 3200 (2 * t.toNat) := by
  simp [backoff, Config.tMax]

/-- SLOT_ELAPSED a millisecond later, as a number (R206). -/
theorem elapse_toNat (e : BitVec 16) : (elapse e).toNat = min 0xFFFF (e.toNat + 1) := by
  simp [elapse, Config.elapsedMax]

/-! ### One timeout -/

/-- A timeout with an attempt left (R208). -/
theorem timeout_of_attempt_left {f : SeqNum} {s : State} (h : (slotAt s f).attempt.toNat < 3) :
    timeout f s =
      transmitOrHold f
        (setSlot f { slotAt s f with attempt := (slotAt s f).attempt + 1 }
          { s with tRxAck := backoff s.tRxAck }) := by
  unfold timeout
  simp only
  rw [if_pos]
  · rfl
  · show (slotAt s f).attempt.toNat + 1 < Config.ackTimeouts
    rw [Config.ackTimeouts]
    omega

/-- The fourth timeout of a request (R208). -/
theorem timeout_of_last_attempt {f : SeqNum} {s : State} (h : (slotAt s f).attempt.toNat = 3) :
    timeout f s = enterFailed .ackTimeout (some f) { s with tRxAck := backoff s.tRxAck } := by
  unfold timeout
  simp only
  rw [if_neg]
  · show ¬(slotAt s f).attempt.toNat + 1 < Config.ackTimeouts
    rw [h, Config.ackTimeouts]
    decide

/-- A slot that times out is busy. -/
theorem busy_of_timedOut {s : State} {f : SeqNum} (h : timedOut s f = true) : busy s f = true := by
  simp [timedOut] at h
  simp [busy, h.1]

/-! ### The first parts of a TICK -/

@[simp] theorem elapseSlot_state (x : Slot) : (elapseSlot x).state = x.state := by
  unfold elapseSlot; split <;> rfl
@[simp] theorem elapseSlot_payload (x : Slot) : (elapseSlot x).payload = x.payload := by
  unfold elapseSlot; split <;> rfl
@[simp] theorem elapseSlot_attempt (x : Slot) : (elapseSlot x).attempt = x.attempt := by
  unfold elapseSlot; split <;> rfl
@[simp] theorem elapseSlot_deadline (x : Slot) : (elapseSlot x).deadline = x.deadline := by
  unfold elapseSlot; split <;> rfl

/-- The slots after parts 1 and 2 of a TICK. -/
theorem slotAt_tickTimers_tickElapsed (s : State) (f : SeqNum) :
    slotAt (tickTimers (tickElapsed s)) f = elapseSlot (slotAt s f) :=
  slotAt_map elapseSlot s f

/-- Parts 1 and 2 of a TICK, whole. -/
theorem tickTimers_tickElapsed_eq (s : State) :
    tickTimers (tickElapsed s) =
      { s with
        resetTimer := if s.resetPending then s.resetTimer + 1 else s.resetTimer
        nrdyTimer := if s.remoteNrdy then s.nrdyTimer + 1 else s.nrdyTimer
        slots := s.slots.map elapseSlot } := rfl

/-- Part 5 of a TICK does nothing when no slot is past its deadline. -/
theorem tickTimeouts_of_none {s : State} (h : ∀ f, timedOut s f = false) : tickTimeouts s = s :=
  runTimeouts_of_none _ _ fun f _ => h f

/-! ### The terms in which claims speak of a TICK's timeouts -/

@[simp] theorem ackTimeoutAfter_zero (T : BitVec 12) : ackTimeoutAfter 0 T = T := rfl

/-- One timeout more backs off once more (43_tx_engine.md R208). -/
theorem backoff_ackTimeoutAfter (n : Nat) (T : BitVec 12) :
    backoff (ackTimeoutAfter n T) = ackTimeoutAfter (n + 1) T := by
  cases n with
  | zero => simp [ackTimeoutAfter, backoff, Config.tMax]
  | succ n =>
    simp only [ackTimeoutAfter, backoff, Config.tMax, Nat.succ_ne_zero, if_false, BitVec.toNat_ofNat]
    rw [Nat.mod_eq_of_lt (by omega : min 3200 (2 ^ (n + 1) * T.toNat) < 2 ^ 12)]
    rw [Nat.pow_succ 2 (n + 1), Nat.mul_comm (2 ^ (n + 1)) 2, Nat.mul_assoc]
    generalize 2 ^ (n + 1) * T.toNat = m
    congr 1
    omega

@[simp] theorem stateAtTimeouts_ncpState (s : State) : (stateAtTimeouts s).ncpState = s.ncpState := by
  unfold stateAtTimeouts; split <;> rfl
@[simp] theorem stateAtTimeouts_resetPending (s : State) :
    (stateAtTimeouts s).resetPending = s.resetPending := by
  unfold stateAtTimeouts; split <;> rfl
@[simp] theorem stateAtTimeouts_txSeq (s : State) : (stateAtTimeouts s).txSeq = s.txSeq := by
  unfold stateAtTimeouts; split <;> rfl
@[simp] theorem stateAtTimeouts_rxSeq (s : State) : (stateAtTimeouts s).rxSeq = s.rxSeq := by
  unfold stateAtTimeouts; split <;> rfl
@[simp] theorem stateAtTimeouts_tRxAck (s : State) : (stateAtTimeouts s).tRxAck = s.tRxAck := by
  unfold stateAtTimeouts; split <;> rfl
@[simp] theorem stateAtTimeouts_upOut (s : State) : (stateAtTimeouts s).upOut = s.upOut := by
  unfold stateAtTimeouts; split <;> rfl

/-- A slot is listed exactly when it times out. -/
theorem mem_timedOutSlots (u : State) (f : SeqNum) : f ∈ timedOutSlots u ↔ timedOut u f = true := by
  simp [timedOutSlots, mem_oldestFirst]

/-- No slot is listed twice. -/
theorem timedOutSlots_nodup (u : State) : (timedOutSlots u).Nodup := (oldestFirst_nodup _).filter _

/-- A retransmission or a hold in closed form: the slot it leaves (43_tx_engine.md R203, R204, R208). -/
theorem slotAt_transmitOrHold (f g : SeqNum) (s : State) :
    slotAt (transmitOrHold f s) g =
      if f = g then
        if s.remoteNrdy then { slotAt s f with state := .waitTx, elapsed := 0 }
        else { slotAt s f with deadline := s.tRxAck, elapsed := 0, state := .waitAck }
      else slotAt s g := by
  unfold transmitOrHold
  split
  · rw [slotAt_holdSlot]
  · rw [slotAt_transmitSlot]

/-- What else a retransmission or a hold changes: WIRE_OUT alone. -/
theorem transmitOrHold_frame (f : SeqNum) (s : State) :
    transmitOrHold f s =
      { s with
        slots := (transmitOrHold f s).slots
        wireOut := s.wireOut ++ if s.remoteNrdy then [] else wire (slotFrame f s) } := by
  by_cases h : s.remoteNrdy = true
  · rw [if_pos h, List.append_nil, transmitOrHold, if_pos h]
    rfl
  · rw [if_neg h, transmitOrHold, if_neg h]
    rfl

/-! ### The receive pipeline -/

/-- RX_BUF is full exactly when it holds RX_BUF_MAX bytes (41_rx_pipeline.md R148). -/
theorem rxFull_iff (p : Config.Params) (buf : Bytes) :
    rxFull p buf = true ↔ p.rxBufMax = some buf.length := by
  simp only [rxFull, Config.Params.rxBufMax, Bool.and_eq_true, decide_eq_true_eq, beq_iff_eq]
  cases p.rxBufSpare with
  | none => simp
  | some n => simp [Config.rxBufLeast]; omega

/-! ### A step -/

/-- The offers before an enabled event that are not enabled stay where they are. -/
theorem nextOffer_of_held (p : Config.Params) (s : State) :
    ∀ (held : List InputEvent) (e : InputEvent) (rest : List InputEvent),
      (∀ x ∈ held, enabled p s x = false) → enabled p s e = true →
      nextOffer p s (held ++ e :: rest) = some (e, held ++ rest)
  | [], e, rest, _, he => by simp [nextOffer, he]
  | x :: held, e, rest, h, he => by
    simp [nextOffer, h x (by simp), nextOffer_of_held p s held e rest (fun y hy => h y (by simp [hy])) he]

/-- What a step that answers a next state can have done: nothing, or one offered event. -/
theorem step_cases {s t : State} (h : step s = .next t) :
    t = s ∨ ∃ e rest, nextOffer Config.block s s.input = some (e, rest) ∧
      exec (decodeEvent e) { s with input := rest } = .next t := by
  unfold step at h
  split at h
  · cases h; exact .inl rfl
  · next e rest he => exact .inr ⟨e, rest, he, h⟩

/-! ### Runs -/

theorem coreRun_succ_of_next {M : Host.Core} {s t : M.State} (k : Nat) (h : M.step s = .next t) :
    M.run (k + 1) s = M.run k t := by
  simp [Host.Core.run, h]

theorem coreRun_one (M : Host.Core) (s : M.State) : M.run 1 s = M.step s := by
  simp only [Host.Core.run]
  cases h : M.step s <;> rfl

@[simp] theorem runSteps_zero (s : State) : runSteps 0 s = .next s := rfl

/-- A run goes on from the next state of its first step. -/
theorem runSteps_succ_of_next {s t : State} (k : Nat) (h : step s = .next t) :
    runSteps (k + 1) s = runSteps k t :=
  coreRun_succ_of_next (M := core) k h

/-- A run of one step is the step. -/
theorem runSteps_one (s : State) : runSteps 1 s = step s := coreRun_one core s

end Sys2Proof.Machine
end

