-- ==== Sys2Proof/Laws/PerInstr.lean ====
section
/-! SUPPORT. Statements made for every instruction, one lemma per constructor. -/

namespace Sys2Proof.Laws

/-- What has wire bytes is either one byte or a frame that its FLAG ends (30_encoding.md R80, R81). -/
def EncodeTerminated.Statement (i : Instr) : Prop :=
  ∀ bytes, encode i = some bytes →
    ∃ before last, bytes = before ++ [last] ∧ (last = Config.flagByte ∨ before = [])

/-- A frame's wire form ends with FLAG. -/
theorem wire_terminated (F : Frame) (bytes : Bytes) (h : some (wire F) = some bytes) :
    ∃ before last, bytes = before ++ [last] ∧ (last = Config.flagByte ∨ before = []) :=
  ⟨stuff (frameBytes F), Config.flagByte, (Option.some.inj h).symm, .inl rfl⟩

/-- A single byte stands alone. -/
theorem byte_terminated (b : Byte) (bytes : Bytes) (h : some [b] = some bytes) :
    ∃ before last, bytes = before ++ [last] ∧ (last = Config.flagByte ∨ before = []) :=
  ⟨[], b, (Option.some.inj h).symm, .inr rfl⟩

theorem EncodeTerminated.data (frm : SeqNum) (re : Bit) (ackNum : SeqNum) (payload : Bytes) :
    EncodeTerminated.Statement (.data frm re ackNum payload) := wire_terminated _
theorem EncodeTerminated.ack (res nrdy : Bit) (ackNum : SeqNum) :
    EncodeTerminated.Statement (.ack res nrdy ackNum) := wire_terminated _
theorem EncodeTerminated.nak (res nrdy : Bit) (ackNum : SeqNum) :
    EncodeTerminated.Statement (.nak res nrdy ackNum) := wire_terminated _
theorem EncodeTerminated.rst :
    EncodeTerminated.Statement .rst := wire_terminated _
theorem EncodeTerminated.rstack (version code : Byte) :
    EncodeTerminated.Statement (.rstack version code) := wire_terminated _
theorem EncodeTerminated.error (version code : Byte) :
    EncodeTerminated.Statement (.error version code) := wire_terminated _
theorem EncodeTerminated.flag :
    EncodeTerminated.Statement .flag := byte_terminated _
theorem EncodeTerminated.escape :
    EncodeTerminated.Statement .escape := byte_terminated _
theorem EncodeTerminated.xon :
    EncodeTerminated.Statement .xon := byte_terminated _
theorem EncodeTerminated.xoff :
    EncodeTerminated.Statement .xoff := byte_terminated _
theorem EncodeTerminated.substitute :
    EncodeTerminated.Statement .substitute := byte_terminated _
theorem EncodeTerminated.cancelByte :
    EncodeTerminated.Statement .cancelByte := byte_terminated _
theorem EncodeTerminated.rxByte (b : Byte) :
    EncodeTerminated.Statement (.rxByte b) := byte_terminated _
theorem EncodeTerminated.send (payload : Bytes) :
    EncodeTerminated.Statement (.send payload) := fun _ h => nomatch h
theorem EncodeTerminated.cancel (f : SeqNum) :
    EncodeTerminated.Statement (.cancel f) := fun _ h => nomatch h
theorem EncodeTerminated.resetReq :
    EncodeTerminated.Statement .resetReq := fun _ h => nomatch h
theorem EncodeTerminated.tick :
    EncodeTerminated.Statement .tick := fun _ h => nomatch h
theorem EncodeTerminated.connLost :
    EncodeTerminated.Statement .connLost := fun _ h => nomatch h

end Sys2Proof.Laws
end

