-- ==== Sys2Proof/Tests/Slice0.lean ====
section
/-! SUPPORT. The model's own tests. The expected values come from the worked vectors of 95_test_vectors.md,
named by their identifiers, or from the rule a comment names. The last part shows, for each statement with
hypotheses, a state and operands that meet them. -/

namespace Sys2Proof.Tests

open Sys2Proof.Machine

/-! ### Small states -/

/-- S0 of 95_test_vectors.md: the link is up, nothing in flight. -/
def up : State := { State.reset with ncpState := .connected }

/-- A transmission on the wire. -/
def onWire (attempt : BitVec 2) (elapsed : BitVec 16) (deadline : BitVec 12) (P : Bytes) : Slot where
  state := .waitAck
  payload := P
  attempt := attempt
  deadline := deadline
  elapsed := elapsed

/-- A transmission held back by the pause. -/
def held (P : Bytes) : Slot := { Slot.reset with state := .waitTx, payload := P }

/-- S0 with slot 0 busy (V4-13: `SEND(05)`), as it stands `e` milliseconds later. -/
def sent (e : BitVec 16) : State := setSlot 0 (onWire 0 e 1600 [0x05]) { up with txSeq := 1 }

/-- S0 with slots 0, 1 and 2 busy, ten milliseconds later (V5-11). -/
def sentThree : State :=
  setSlot 2 (onWire 0 10 1600 [0x03]) (setSlot 1 (onWire 0 10 1600 [0x02])
    (setSlot 0 (onWire 0 10 1600 [0x01]) { up with txSeq := 3 }))

/-- V5-7 before TICK 1600: `SEND(01)` and `SEND(02)`, a millisecond before their deadlines. -/
def lateTwo : State :=
  setSlot 1 (onWire 0 1599 1600 [0x02]) (setSlot 0 (onWire 0 1599 1600 [0x01]) { up with txSeq := 2 })

/-- V5-7 before TICK 11200: the last attempt of slots 0 and 1, a millisecond before their deadline. -/
def lastAttempt : State :=
  setSlot 1 (onWire 3 3199 3200 [0x02]) (setSlot 0 (onWire 3 3199 3200 [0x01]) { up with txSeq := 2, tRxAck := 3200 })

/-- S0 in a not-ready pause with slot 1 held (V6-11), at NRDY_TIMER t. -/
def paused (t : BitVec 10) : State :=
  setSlot 1 (held [0x02]) { up with txSeq := 2, tRxAck := 1400, remoteNrdy := true, nrdyTimer := t }

/-- P0 with a handshake pending (V6-1), at RESET_TIMER t. -/
def resetting (t : BitVec 13) : State := { State.reset with resetPending := true, resetTimer := t }

/-- S0 with a byte string in RX_BUF. -/
def buffered (B : Bytes) : State := { up with rxBuf := B }

/-- S0 while discarding. -/
def discarding : State := { up with rxDiscard := true }

/-! ### Well-formedness: each check refuses an ill-formed term (40_codec.md R126) -/

theorem test_wf_rstack_version_two : (Instr.rstack 2 0x0B).wf = true := by decide
theorem test_wf_refuses_rstack_version_three : (Instr.rstack 3 0x0B).wf = false := by decide
theorem test_wf_error_any_version : (Instr.error 7 0x51).wf = true := by decide

/-! ### Words written out from 30_encoding.md, one for every constructor -/

/-- R84: bit 7 clear, frm_num 101, re_tx 1, ack_num 110. The payload byte is 0x01 ^ 0x42 (40_codec.md R115). -/
theorem test_decode_data_word :
    decodeTableWord 16 0b01000011_01011110 = some (.data 5 1 6 [0x01]) := by decide

/-- R85: 100, reserved 1, ncp_not_ready 0, ack_num 011. -/
theorem test_decode_ack_word : decodeTableWord 8 0b10010011 = some (.ack 1 0 3) := by decide

/-- R86: 101, reserved 0, ncp_not_ready 1, ack_num 100. -/
theorem test_decode_nak_word : decodeTableWord 8 0b10101100 = some (.nak 0 1 4) := by decide

/-- R87. -/
theorem test_decode_rst_word : decodeTableWord 8 0b11000000 = some .rst := by decide

/-- R88: the version is the byte after the control byte, the code the byte after that. -/
theorem test_decode_rstack_word :
    decodeTableWord 24 0b00001011_00000010_11000001 = some (.rstack 2 0x0B) := by decide

/-- R89. -/
theorem test_decode_error_word :
    decodeTableWord 24 0b01010001_00000111_11000010 = some (.error 7 0x51) := by decide

/-- R81: the six reserved bytes, each its own row. -/
theorem test_decode_wire_bytes :
    [0x7E, 0x7D, 0x11, 0x13, 0x18, 0x1A].map (decodeTableWord 8) =
      [some .flag, some .escape, some .xon, some .xoff, some .substitute, some .cancelByte] := by decide

/-- R81: any other byte is RX_BYTE of that byte. -/
theorem test_decode_other_byte : decode [0x41] = .ok (.rxByte 0x41) := by decide

/-- Each input event is the instruction of its name (60_exceptions.md R272, R273). -/
theorem test_decode_events :
    [InputEvent.rxByte 0x41, .send [0x01], .cancel 3, .resetReq, .tick, .connLost].map decodeEvent =
      [.rxByte 0x41, .send [0x01], .cancel 3, .resetReq, .tick, .connLost] := by decide

/-- R95: 0xC3 is no kind. R94: ACK and RST have no body. -/
theorem test_decode_refuses :
    decodeTableWord 8 0xC3 = none ∧ decodeTableWord 16 0x0080 = none ∧ decodeTableWord 16 0x00C0 = none := by
  decide

/-- V2-2, V2-15, V2-26: the encoder's bytes. -/
theorem test_encode_frames :
    encode (.rstack 2 0x0B) = some [0xC1, 0x02, 0x0B, 0x0A, 0x52, 0x7E] ∧
    encode (.nak 0 0 0) = some [0xA0, 0x54, 0x7D, 0x3A, 0x7E] ∧
    encode (.data 0 0 0 [0x01, 0x02]) = some [0x00, 0x43, 0x23, 0x80, 0x02, 0x7E] := by decide +kernel

/-- V3-5, V3-6, V3-7, V3-8, V3-9, V3-10: the six drops of PARSE (40_codec.md R130). -/
theorem test_parse_drops :
    parse [0x80, 0x70] = .error .shortFrame ∧ parse [0x80, 0x70, 0x79] = .error .crcError ∧
    parse [0xC3, 0x08, 0xDF] = .error .unknownControl ∧
    parse [0x80, 0x00, 0x06, 0x97] = .error .badLength ∧
    parse [0xC1, 0x03, 0x0B, 0x39, 0x63] = .error .badVersion ∧
    parse [0x80, 0x7D, 0x7D] = .error .badEscape := by decide +kernel

/-- V1-9, V1-10: CRC16. -/
theorem test_crc16 :
    crc16 [0xC0] = 0x38BC ∧
    crc16 [0x31, 0x32, 0x33, 0x34, 0x35, 0x36, 0x37, 0x38, 0x39] = 0x29B1 := by decide +kernel

/-- V1-15, V1-18: PRBS and SCRAMBLE. -/
theorem test_scramble :
    (List.range 8).map prbs = [0x42, 0x21, 0xA8, 0x54, 0x2A, 0x15, 0xB2, 0x59] ∧
    scramble [0x00, 0x80, 0x00, 0x08, 0x02, 0x80, 0x67] = [0x42, 0xA1, 0xA8, 0x5C, 0x28, 0x95, 0xD5] := by
  decide +kernel

/-! ### One step of each instruction -/

/-- V4-1: DATA accepted. -/
theorem test_data_accept :
    (receiveData Config.reference 0 0 0 [0x09] up).rxSeq = 1 ∧
    (receiveData Config.reference 0 0 0 [0x09] up).wireOut = [0x81, 0x60, 0x59, 0x7E] ∧
    (receiveData Config.reference 0 0 0 [0x09] up).upOut = [.deliver [0x09]] := by decide +kernel

/-- V4-5: DATA out of order. -/
theorem test_data_reject :
    (receiveData Config.reference 1 0 0 [0x01] up).wireOut =
      [0x80, 0x70, 0x78, 0x7E, 0xA0, 0x54, 0x7D, 0x3A, 0x7E] ∧
    (receiveData Config.reference 1 0 0 [0x01] up).upOut = [] := by decide +kernel

/-- V4-17: an ACK a hundred milliseconds after the SEND. -/
theorem test_ack_completes :
    (receiveAck Config.reference 0 1 (sent 100)).tRxAck = 1450 ∧
    (receiveAck Config.reference 0 1 (sent 100)).upOut = [.complete 0 .ok] := by decide

/-- V5-11, V5-11b: ACK(3) under both values of ACK_SCOPE. -/
theorem test_ack_scope :
    (receiveAck Config.reference 0 3 sentThree).upOut = [.complete 2 .ok] ∧
    (receiveAck Config.reference 0 3 sentThree).tRxAck = 1405 ∧
    (receiveAck { Config.reference with ackScope := .cumulative } 0 3 sentThree).upOut =
      [.complete 0 .ok, .complete 1 .ok, .complete 2 .ok] ∧
    (receiveAck { Config.reference with ackScope := .cumulative } 0 3 sentThree).tRxAck = 1084 := by decide

/-- V4-15: NAK names the request itself. -/
theorem test_nak_ends_request :
    (receiveNak Config.reference 0 0 (sent 0)).upOut = [.complete 0 .notAcked] ∧
    (receiveNak Config.reference 0 0 (sent 0)).tRxAck = 1600 := by decide

/-- V4-16: NAK of a FREE slot. -/
theorem test_nak_of_free_slot :
    (receiveNak Config.reference 0 1 (sent 0)).diagOut = [.unexpectedNak] ∧
    (receiveNak Config.reference 0 1 (sent 0)).slots = (sent 0).slots := by decide

/-- V4-10: RST received. -/
theorem test_rst : exec .rst up = .next { up with diagOut := [.unexpectedFrame] } := rfl

/-- V6-2: RSTACK in a pending handshake. -/
theorem test_rstack_handshake :
    (receiveRstack 0x0B (resetting 20)).upOut = [.rstackRx 0x0B, .resetDone 0x0B] ∧
    linkUp (receiveRstack 0x0B (resetting 20)) = true := by decide

/-- V4-12: an unsolicited RSTACK(POWER_ON). -/
theorem test_rstack_unsolicited :
    (receiveRstack 0x02 up).upOut = [.rstackRx 0x02, .failure (.unexpectedReset 0x02)] ∧
    (receiveRstack 0x02 up).ncpState = .failed := by decide

/-- V4-13b in small: ERROR with a request in flight. -/
theorem test_error :
    (receiveError 0x06 (sent 0)).upOut =
      [.complete 0 .transportFailed, .failure (.ncpError 0x06)] ∧
    (receiveError 0x06 (sent 0)).txSeq = 1 := by decide

/-- V3-6: FLAG closes a segment with a wrong CRC. -/
theorem test_flag_crc_error :
    (onFlag Config.reference (buffered [0x80, 0x70, 0x79])).diagOut = [.dropped .crcError] ∧
    (onFlag Config.reference (buffered [0x80, 0x70, 0x79])).rxBuf = [] := by decide +kernel

/-- V3-1: FLAG closes an RST. -/
theorem test_flag_rst :
    (onFlag Config.reference (buffered [0xC0, 0x38, 0xBC])).diagOut = [.unexpectedFrame] := by decide +kernel

/-- V3-14, RX_BUF_MAX = 9: the tenth byte overflows, the ninth does not. -/
theorem test_overflow :
    (onOther { Config.reference with rxBufSpare := some 0 } 0x0A
      (buffered [1, 2, 3, 4, 5, 6, 7, 8, 9])).diagOut = [.rxOverflow] ∧
    (onOther { Config.reference with rxBufSpare := some 0 } 0x09
      (buffered [1, 2, 3, 4, 5, 6, 7, 8])).rxBuf = [1, 2, 3, 4, 5, 6, 7, 8, 9] := by decide

/-- 41_rx_pipeline.md R147: ESCAPE is kept in RX_BUF until the segment ends. -/
theorem test_escape_is_buffered :
    (onOther Config.reference 0x7D (buffered [0x80])).rxBuf = [0x80, 0x7D] := by decide

/-- V3-4: XON and XOFF are removed. -/
theorem test_xon_xoff :
    exec .xon (buffered [0x80]) = .next { buffered [0x80] with diagOut := [.xon] } ∧
    exec .xoff (buffered [0x80]) = .next { buffered [0x80] with diagOut := [.xoff] } := ⟨rfl, rfl⟩

/-- V3-3: SUBSTITUTE drops the partial frame and begins the discard. -/
theorem test_substitute :
    exec .substitute (buffered [0x41]) =
      .next { up with rxDiscard := true, diagOut := [.substituteByte] } := rfl

/-- V3-2: CANCEL drops the partial frame. -/
theorem test_cancel_byte :
    exec .cancelByte (buffered [0x41, 0x42]) = .next { up with diagOut := [.cancelByte] } := rfl

/-- V3-13: while discarding 0x41 and CANCEL have no effect. -/
theorem test_discard :
    exec (.rxByte 0x41) discarding = .next discarding ∧ exec .cancelByte discarding = .next discarding ∧
    exec .flag discarding = .next up := ⟨rfl, rfl, rfl⟩

/-- V5-1: SEND(01 02). -/
theorem test_send :
    (sendRequest Config.reference [0x01, 0x02] up).wireOut = [0x00, 0x43, 0x23, 0x80, 0x02, 0x7E] ∧
    (sendRequest Config.reference [0x01, 0x02] up).upOut = [.accepted 0] ∧
    slotAt (sendRequest Config.reference [0x01, 0x02] up) 0 = onWire 0 0 1600 [0x01, 0x02] := by
  decide +kernel

/-- V5-13, V5-14: SEND rejected. -/
theorem test_send_rejected :
    (sendRequest { Config.reference with maxPayload := some 2 } [1, 2, 3] up).upOut =
      [.sendRejected .payloadTooLong] ∧
    (sendRequest Config.reference [1] State.reset).upOut = [.sendRejected .transportFailed] := by decide

/-- V5-12, V5-12b: CANCEL(0) of a busy slot and of a FREE one. -/
theorem test_cancel :
    (cancelRequest 0 (sent 0)).upOut = [.complete 0 .cancelled] ∧
    (cancelRequest 0 (sent 0)).tRxAck = 1600 ∧ (cancelRequest 0 up).diagOut = [.cancelNoSlot] := by decide

/-- V6-5: RESET_REQ with two requests in flight, and a third. -/
theorem test_reset_req :
    (resetRequest sentThree).upOut =
      [.complete 0 .transportFailed, .complete 1 .transportFailed, .complete 2 .transportFailed] ∧
    (resetRequest sentThree).wireOut = [0xC0, 0x38, 0xBC, 0x7E] ∧ (resetRequest sentThree).txSeq = 3 := by
  decide +kernel

/-- V5-7: TICK 1600, at which two slots time out, and TICK 11200, which takes the link to FAILED. -/
theorem test_tick_timeouts :
    (tickEvent lateTwo).tRxAck = 3200 ∧ slotAt (tickEvent lateTwo) 0 = onWire 1 0 3200 [0x01] ∧
    (tickEvent lateTwo).wireOut =
      [0x08, 0x43, 0xEC, 0x01, 0x7E, 0x7D, 0x38, 0x40, 0xDF, 0x7D, 0x31, 0x7E] ∧
    (tickEvent lastAttempt).ncpState = .failed ∧
    (tickEvent lastAttempt).upOut =
      [.complete 0 .ackTimeout, .complete 1 .transportFailed, .failure .ackTimeout] := by decide +kernel

/-- V6-12b: the TICK that ends the pause. -/
theorem test_tick_pause :
    (tickEvent (paused 999)).wireOut = [0x10, 0x40, 0x56, 0xB8, 0x7E] ∧
    slotAt (tickEvent (paused 999)) 1 = onWire 0 0 1400 [0x02] := by decide +kernel

/-- V6-7, V6-8: CONN_LOST. -/
theorem test_conn_lost :
    (connectionLost (sent 0)).upOut = [.complete 0 .transportFailed, .failure .connectionLost] ∧
    (connectionLost (resetting 20)).upOut = [.resetFailed] := by decide

/-! ### A step, and a word laid out for it -/

/-- 60_exceptions.md R278: nothing happens from power-on until an event is offered. -/
theorem test_step_idle : step State.reset = .next State.reset := rfl

theorem test_step_tick : step { up with input := [.tick] } = .next (tickEvent up) := rfl

/-- The first step after reset runs the RST word laid out for it. -/
theorem test_step_fetch_word :
    step (State.reset.withFetchWord 8 0xC0) = .next { State.reset with diagOut := [.unexpectedFrame] } := rfl

/-! ### Witnesses: states and operands that meet the hypotheses of the statements -/

/-- An empty payload is never too long, so a SEND([]) while the link is up is not rejected. -/
theorem sendRejection_empty (p : Config.Params) (s : State) (h : s.ncpState = .connected)
    (h' : s.resetPending = false) : sendRejection p [] s = none := by
  simp only [sendRejection, h, h']
  cases p.maxPayload <;> simp

/-- Five busy slots, and slot TX_SEQ FREE. -/
def full : State :=
  setSlot 4 (onWire 0 0 1600 []) (setSlot 3 (onWire 0 0 1600 []) { sentThree with txSeq := 5 })

theorem witness_StepRunsFirstEnabledEvent :
    { full with input := [.send [], .tick] }.input = [.send []] ++ .tick :: [] ∧
    (∀ x ∈ [InputEvent.send []], enabled Config.block { full with input := [.send [], .tick] } x = false) ∧
    enabled Config.block { full with input := [.send [], .tick] } .tick = true ∧
    (∀ x ∈ { full with input := [.send []] }.input,
      enabled Config.block { full with input := [.send []] } x = false) := by
  refine ⟨rfl, ?_, rfl, ?_⟩ <;> intro x hx <;> cases List.mem_singleton.1 hx <;>
    simp only [enabled] <;>
    rw [sendRejection_empty _ _ (by rfl) (by rfl)] <;> decide

theorem witness_StepRunsReceivedFrame :
    { buffered [0xC0, 0x38, 0xBC] with input := [.rxByte 0x7E] }.input = .rxByte Config.flagByte :: [] ∧
    (buffered [0xC0, 0x38, 0xBC]).rxDiscard = false ∧
    parse (buffered [0xC0, 0x38, 0xBC]).rxBuf = .ok .rst := by decide +kernel

theorem witness_StepRunsLaidOutWord :
    decodeTableWord 8 0x7E = some .flag ∧ decodeTableWord 8 0xC1 = some (.rstack 0 0) ∧
    decodeTableWord 8 0x7F = some (.data 7 1 7 []) := by decide

theorem witness_CrcCheckIsZeroResidue :
    3 ≤ ([0xC0, 0x38, 0xBC] : Bytes).length ∧ crcOk [0xC0, 0x38, 0xBC] = true ∧
    3 ≤ ([0xC0, 0x38, 0xBD] : Bytes).length ∧ crcOk [0xC0, 0x38, 0xBD] = false := by decide +kernel

/-- A prefix with an escape sequence in it, a valid byte after ESCAPE, and bytes that are not valid there. -/
theorem witness_EscapeSequencesAreTheSix :
    let table : List (Byte × Byte) :=
      [(0x7E, 0x5E), (0x7D, 0x5D), (0x11, 0x31), (0x13, 0x33), (0x18, 0x38), (0x1A, 0x3A)]
    unstuff [0x80, 0x7D, 0x5E] = some [0x80, 0x7E] ∧ unstuff [] = some [] ∧ ((0x1A, 0x3A) : Byte × Byte) ∈ table ∧
    0x00 ∉ table.map Prod.snd ∧ 0x7D ∉ table.map Prod.snd := by decide

theorem witness_ParseInvertsSerialise :
    (Frame.rstack 2 0x0B).wf = true ∧ (Frame.data 7 1 7 []).wf = true ∧ (Frame.ack 1 1 0).wf = true := by
  decide

theorem witness_ParsedSegmentIsTheSerialisedFrame :
    (∀ b ∈ ([0xA0, 0x54, 0x7D, 0x3A] : Bytes), isStray b = false) ∧
    parse [0xA0, 0x54, 0x7D, 0x3A] = .ok (.nak 0 0 0) := by decide +kernel

theorem witness_DecodeInvertsEncode :
    (Instr.rstack 2 0x0B).wf = true ∧ (Instr.rstack 2 0x0B).canonical = true ∧
    encode (.rstack 2 0x0B) = some [0xC1, 0x02, 0x0B, 0x0A, 0x52, 0x7E] ∧
    (Instr.rxByte 0x41).wf = true ∧ (Instr.rxByte 0x41).canonical = true ∧
    encode (.rxByte 0x41) = some [0x41] := by decide +kernel

theorem witness_DiscardDropsBytesThroughFlag :
    discarding.rxDiscard = true ∧ (∀ b ∈ ([0x41, 0x1A] : Bytes), b ≠ Config.flagByte) := by decide

theorem witness_FlagClosesTheSegment :
    up.rxDiscard = false ∧ up.rxBuf = [] ∧
    (buffered [0x80]).rxBuf ≠ [] ∧ parse (buffered [0x80]).rxBuf = .error .shortFrame ∧
    (buffered [0x80, 0x70, 0x78]).rxDiscard = false ∧
    parse (buffered [0x80, 0x70, 0x78]).rxBuf = .ok (.ack 0 0 0) := by decide +kernel

/-- Also for `CancelByteDropsPartialFrame`, `SubstituteDiscardsThroughFlag` and `XonXoffAreOnlyLogged`. -/
theorem witness_OtherBytesAreBufferedOrOverflow :
    (buffered [0x41]).rxDiscard = false ∧ isStray 0x41 = false ∧ isStray 0x7D = false ∧
    (∀ b ∈ ([0x41] : Bytes), b ≠ Config.flagByte) := by decide

theorem witness_ReceivedWireFormRunsItsFrame :
    Frame.rst.wf = true ∧ up.rxDiscard = false ∧ up.rxBuf = [] ∧
    ∀ most, Config.block.rxBufMax = some most → (stuff (frameBytes .rst)).length ≤ most := by
  refine ⟨by decide, rfl, rfl, fun most h => ?_⟩
  have hl : (stuff (frameBytes .rst)).length = 3 := by decide +kernel
  rw [hl]
  revert h
  simp only [Config.Params.rxBufMax, Config.rxBufLeast]
  cases Config.block.rxBufSpare <;> simp
  omega

theorem witness_GatedFramesIgnoredWhileLinkDown :
    State.reset.ncpState = .failed ∧ (resetting 0).resetPending = true := ⟨rfl, rfl⟩

/-- Each clause: accepted at RX_SEQ 0, a replay of number 7, and a reject of either re_tx. -/
theorem witness_DataFrameEffect :
    up.ncpState = .connected ∧ up.resetPending = false ∧
    ((0 : SeqNum) = up.rxSeq ∧ (0 : Bit) = 0) ∧ ((7 : SeqNum) = up.rxSeq - 1 ∧ (1 : Bit) = 1) ∧
    ((0 : Bit) = 0 ∧ (1 : SeqNum) ≠ up.rxSeq) ∧
    ((1 : Bit) = 1 ∧ (1 : SeqNum) ≠ up.rxSeq - 1 ∧
      ¬((1 : SeqNum) = up.rxSeq ∧ Config.block.retxNewAccept = true)) := by
  refine ⟨rfl, rfl, by decide, by decide, by decide, rfl, by decide, fun h => absurd h.1 (by decide)⟩

theorem witness_AckNamesItsSlots :
    busy up (1 - 1) = false ∧ busy sentThree (3 - 1) = true ∧ Config.reference.ackScope = .lastOnly ∧
    { Config.reference with ackScope := .cumulative }.ackScope = .cumulative := by decide

/-- Also for `AckFrameEffect` and `CancelEndsTheRequest`. -/
theorem witness_NakFrameEffect :
    (sent 0).ncpState = .connected ∧ (sent 0).resetPending = false ∧ busy (sent 0) 0 = true ∧
    busy (sent 0) 1 = false := by decide

theorem witness_NotReadyBitRunsThePause :
    Config.reference.nrdyPause = false ∧ { Config.reference with nrdyPause := true }.nrdyPause = true ∧
    up.remoteNrdy = false ∧ (paused 300).remoteNrdy = true := by decide

theorem witness_RstackCompletesHandshake : (resetting 20).resetPending = true := rfl

/-- Also for `ErrorFrameFailsTheLink` and `ConnectionLostEffect`. -/
theorem witness_UnsolicitedRstackEffect :
    up.resetPending = false ∧ up.ncpState = .connected ∧ State.reset.ncpState = .failed ∧
    State.reset.resetPending = false ∧ (0x02 : Byte) ≠ 0x0B ∧ (3 : Byte) ≠ 2 := by decide

theorem witness_SendIsRejectedAtOnce :
    State.reset.ncpState = .failed ∧ up.ncpState = .connected ∧ up.resetPending = false ∧
    { Config.reference with maxPayload := some 2 }.maxPayload = some 2 ∧
    2 < ([1, 2, 3] : Bytes).length := by decide

theorem witness_HeldSendHasNoEffect :
    full.ncpState = .connected ∧ full.resetPending = false ∧
    (∀ most, Config.block.maxPayload = some most → ([] : Bytes).length ≤ most) ∧
    5 ≤ busyCount full ∧ busy full full.txSeq = false ∧
    busy { sent 0 with txSeq := 0 } { sent 0 with txSeq := 0 }.txSeq = true :=
  ⟨rfl, rfl, fun _ _ => Nat.zero_le _, by decide, by decide, by decide⟩

/-- A SEND that is held, one that R201 rejects with the window full, and one that is accepted. -/
theorem witness_EveryEventButAHeldSendIsEnabled :
    enabled Config.reference full (.send []) = false ∧
    enabled { Config.reference with maxPayload := some 2 } full (.send [1, 2, 3]) = true ∧
    enabled Config.reference (sent 0) (.send []) = true := by decide

theorem witness_AcceptedSendTakesSlot :
    (sent 0).ncpState = .connected ∧ (sent 0).resetPending = false ∧
    (∀ most, Config.block.maxPayload = some most → ([] : Bytes).length ≤ most) ∧
    busyCount (sent 0) < 5 ∧ busy (sent 0) (sent 0).txSeq = false ∧ (sent 0).remoteNrdy = false ∧
    busyCount (paused 0) < 5 ∧ busy (paused 0) (paused 0).txSeq = false ∧ (paused 0).remoteNrdy = true :=
  ⟨rfl, rfl, fun _ _ => Nat.zero_le _, by decide, by decide, rfl, by decide, by decide, rfl⟩

theorem witness_QuietTickCounts :
    ((sent 1598).resetPending = true → (sent 1598).resetTimer.toNat + 1 < 5000) ∧
    ((sent 1598).remoteNrdy = true → (sent 1598).nrdyTimer.toNat + 1 < 1000) ∧
    (∀ f, (slotAt (sent 1598) f).state = .waitAck →
      (slotAt (sent 1598) f).elapsed.toNat + 1 < (slotAt (sent 1598) f).deadline.toNat) := by decide

theorem witness_TimeoutRetransmits :
    (sent 1599).resetPending = false ∧
    ((sent 1599).remoteNrdy = true → (sent 1599).nrdyTimer.toNat + 1 < 1000) ∧
    (sent 1599).ncpState = .connected ∧ (slotAt (sent 1599) 0).state = .waitAck ∧
    (slotAt (sent 1599) 0).deadline.toNat ≤ (slotAt (sent 1599) 0).elapsed.toNat + 1 ∧
    (slotAt (sent 1599) 0).attempt.toNat < 3 ∧
    (∀ g, g ≠ 0 → (slotAt (sent 1599) g).state = .waitAck →
      (slotAt (sent 1599) g).elapsed.toNat + 1 < (slotAt (sent 1599) g).deadline.toNat) ∧
    (sent 1599).remoteNrdy = false ∧
    { sent 1599 with remoteNrdy := true, nrdyTimer := 998 }.nrdyTimer.toNat + 1 < 1000 := by decide

/-- The last attempt of slot 0 with a slot before it and one behind it that are as late. -/
def lastAttemptBetween : State := setSlot 7 (onWire 2 3199 3200 [0x04]) lastAttempt

/-- The same in a not-ready pause of t milliseconds. -/
def lastAttemptPaused (t : BitVec 10) : State := { lastAttemptBetween with remoteNrdy := true, nrdyTimer := t }

/-- The hypotheses of the statements on a TICK with timeouts, but for those on the slots. -/
abbrev ticksUp (s : State) : Prop :=
  (s.resetPending = true → s.resetTimer.toNat + 1 < 5000) ∧ (s.remoteNrdy = true → s.nrdyTimer.toNat < 1000) ∧
  s.ncpState = .connected

theorem witness_FourthTimeoutFailsTheLink :
    ticksUp lastAttempt ∧ timedOutSlots (stateAtTimeouts lastAttempt) = [] ++ 0 :: [1] ∧
    (slotAt (stateAtTimeouts lastAttempt) 0).attempt.toNat = 3 ∧
    ticksUp lastAttemptBetween ∧ timedOutSlots (stateAtTimeouts lastAttemptBetween) = [7] ++ 0 :: [1] ∧
    (∀ g ∈ ([7] : List SeqNum), (slotAt (stateAtTimeouts lastAttemptBetween) g).attempt.toNat < 3) ∧
    (slotAt (stateAtTimeouts lastAttemptBetween) 0).attempt.toNat = 3 := by decide +kernel

/-- The same in a pause that goes on, and on the TICK that ends it. -/
theorem witness_FourthTimeoutFailsTheLink_paused :
    ticksUp (lastAttemptPaused 998) ∧ ticksUp (lastAttemptPaused 999) ∧
    timedOutSlots (stateAtTimeouts (lastAttemptPaused 998)) = [7] ++ 0 :: [1] ∧
    timedOutSlots (stateAtTimeouts (lastAttemptPaused 999)) = [7] ++ 0 :: [1] ∧
    (slotAt (stateAtTimeouts (lastAttemptPaused 998)) 0).attempt.toNat = 3 ∧
    (slotAt (stateAtTimeouts (lastAttemptPaused 999)) 0).attempt.toNat = 3 := by decide +kernel

/-- V5-7 before TICK 1600, but in a pause of t milliseconds with slot 2 held. -/
def lateTwoPaused (t : BitVec 10) : State :=
  setSlot 2 (held [0x03]) { lateTwo with txSeq := 3, remoteNrdy := true, nrdyTimer := t }

theorem witness_TimeoutsDoubleOncePerSlot :
    ∀ s ∈ [lateTwo, lateTwoPaused 998, lateTwoPaused 999], ticksUp s ∧
      timedOutSlots (stateAtTimeouts s) = [0, 1] ∧
      ∀ f, timedOut (stateAtTimeouts s) f = true → (slotAt (stateAtTimeouts s) f).attempt.toNat < 3 := by
  decide +kernel

theorem witness_ResetDeadlineFailsTheHandshake :
    (resetting 4999).resetPending = true ∧ (resetting 4999).resetTimer.toNat = 4999 ∧
    (resetting 4999).remoteNrdy = false ∧ (∀ f, busy (resetting 4999) f = false) ∧
    (resetting 4999).ncpState = .failed ∧
    { resetting 4999 with ncpState := .connected }.ncpState = .connected := by decide

theorem witness_PauseExpiryTransmitsHeldSlots :
    (paused 999).resetPending = false ∧ (paused 999).remoteNrdy = true ∧ (paused 999).nrdyTimer.toNat = 999 ∧
    400 ≤ (paused 999).tRxAck.toNat ∧ (slotAt (paused 999) 1).state = .waitTx ∧
    (∀ f, (slotAt (paused 999) f).state = .waitAck →
      (slotAt (paused 999) f).elapsed.toNat + 1 < (slotAt (paused 999) f).deadline.toNat) := by decide

/-- A safe state with a request in flight that offers a TICK. -/
def safeBusy : State := { sent 1599 with input := [.tick] }

/-- Also for `RequestEndsWithin12800Ticks` (no pause, slot 0 busy). -/
theorem witness_StepKeepsSafe :
    Safe safeBusy ∧ (∃ t, step safeBusy = .next t) ∧ safeBusy.remoteNrdy = false ∧ busy safeBusy 0 = true := by
  refine ⟨?_, ⟨_, rfl⟩, rfl, by decide⟩
  exact {
    window := by decide
    ackTimeoutLow := by decide
    ackTimeoutHigh := by decide
    busyLinkUp := by decide
    rxBufClean := by decide
    rxBufBound := fun _ _ => Nat.zero_le _
    discardEmpty := by decide
    resetTimerRange := by decide
    resetTimerIdle := by decide
    nrdyTimerRange := by decide
    nrdyTimerIdle := by decide
    pauseAllowed := fun h => absurd h (by decide)
    pauseLinkUp := by decide
    waitTxPaused := by decide
    deadlineRange := by decide
    beforeDeadline := by decide }

theorem witness_AckTimeoutStaysInRange :
    400 ≤ safeBusy.tRxAck.toNat ∧ safeBusy.tRxAck.toNat ≤ 3200 ∧ ∃ t, step safeBusy = .next t :=
  ⟨by decide, by decide, _, rfl⟩

theorem witness_EveryRequestCompletesAtMostOnce :
    RequestsBalanced { safeBusy with upOut := [.accepted 0, .complete 0 .ok, .accepted 0] } ∧
    ∃ t, step { safeBusy with upOut := [.accepted 0, .complete 0 .ok, .accepted 0] } = .next t := by
  refine ⟨?_, _, rfl⟩
  show ∀ f : SeqNum, _
  decide

/-- Also for `LinkStateChangesAreReported`: the handshake takes the link from FAILED to CONNECTED. -/
theorem witness_RxSeqAdvancesByOneOrResets :
    ∃ t, exec (.rstack 2 0x0B) (resetting 20) = .next t ∧ (resetting 20).ncpState = .failed ∧
      t.ncpState = .connected := ⟨_, rfl, rfl, rfl⟩

theorem witness_OnlyRstLeavesWhileLinkDown :
    Safe State.reset ∧ linkUp State.reset = false ∧ Instr.tick ≠ .resetReq ∧
    ∃ t, exec .tick State.reset = .next t := by
  refine ⟨?_, rfl, by decide, _, rfl⟩
  exact {
    window := by decide
    ackTimeoutLow := by decide
    ackTimeoutHigh := by decide
    busyLinkUp := by decide
    rxBufClean := by decide
    rxBufBound := fun _ _ => Nat.zero_le _
    discardEmpty := by decide
    resetTimerRange := by decide
    resetTimerIdle := by decide
    nrdyTimerRange := by decide
    nrdyTimerIdle := by decide
    pauseAllowed := fun h => absurd h (by decide)
    pauseLinkUp := by decide
    waitTxPaused := by decide
    deadlineRange := by decide
    beforeDeadline := by decide }

theorem witness_LinkRulesLeaveReceivePipeline :
    Instr.rst = Frame.rst.toInstr ∧ ∃ t, exec .rst (buffered [0x41]) = .next t := ⟨rfl, _, rfl⟩

end Sys2Proof.Tests
end

/-! ### Scope: the event a step runs -/

section
namespace Sys2Proof.Machine

/-- A list of offers yields no event exactly when it holds no enabled one. -/
theorem nextOffer_eq_none_iff (p : Config.Params) (s : State) (offers : List InputEvent) :
    nextOffer p s offers = none ↔ ∀ x ∈ offers, enabled p s x = false := by
  induction offers with
  | nil => simp [nextOffer]
  | cons e es ih =>
    cases he : enabled p s e with
    | true => simp [nextOffer, he]
    | false => simp [nextOffer, he, ih]

/-- A step that finds an enabled event runs it with the other offers left in place (00_scope.md R4). -/
theorem step_of_nextOffer_eq_some {s : State} {e : InputEvent} {rest : List InputEvent}
    (h : nextOffer Config.block s s.input = some (e, rest)) :
    step s = exec (decodeEvent e) { s with input := rest } := by
  simp only [step, h]

/-- A step that finds no enabled event holds its state (60_exceptions.md R278). -/
theorem step_of_nextOffer_eq_none {s : State} (h : nextOffer Config.block s s.input = none) :
    step s = .next s := by
  simp only [step, h]

/-- Settles O2: `nextOffer` passes over the offers that are not enabled, and the step follows what it finds. -/
theorem stepRunsFirstEnabledEvent : Obligations.StepRunsFirstEnabledEvent := by
  unfold Obligations.StepRunsFirstEnabledEvent
  constructor
  · intro s held rest e hinput hheld he
    have hoffer : nextOffer Config.block s s.input = some (e, held ++ rest) :=
      hinput ▸ nextOffer_of_held Config.block s held e rest hheld he
    exact step_of_nextOffer_eq_some hoffer
  · intro s hidle
    exact step_of_nextOffer_eq_none ((nextOffer_eq_none_iff Config.block s s.input).2 hidle)

end Sys2Proof.Machine
end

/-! ### Scope: what an instruction runs -/

section
namespace Sys2Proof.Machine

/-- What an offered event does to the state: the byte layer for a received byte, its own rule for every other
event. -/
def runEvent : InputEvent → State → State
  | .rxByte b => rxByte Config.block b
  | .send P => sendRequest Config.block P
  | .cancel f => cancelRequest f
  | .resetReq => resetRequest
  | .tick => tickEvent
  | .connLost => connectionLost

/-- A received byte as its own row of the table does what RX_BYTE of that byte does (41_rx_pipeline.md R149). -/
theorem exec_decodeByte (b : Byte) (s : State) :
    exec (decodeByte b) s = .next (rxByte Config.block b s) := by
  unfold decodeByte
  split
  case isTrue h => subst h; simp [exec, execFlag, rxByte]
  split
  case isTrue h =>
    subst h
    simp [exec, execEscape, rxByte, Config.escapeByte, Config.flagByte, Config.cancelByte, Config.substituteByte,
      Config.xonByte, Config.xoffByte]
  split
  case isTrue h =>
    subst h
    simp [exec, execXon, rxByte, Config.flagByte, Config.cancelByte, Config.substituteByte, Config.xonByte]
  split
  case isTrue h =>
    subst h
    simp [exec, execXoff, rxByte, Config.flagByte, Config.cancelByte, Config.substituteByte, Config.xonByte,
      Config.xoffByte]
  split
  case isTrue h =>
    subst h
    simp [exec, execSubstitute, rxByte, Config.flagByte, Config.cancelByte, Config.substituteByte]
  split
  case isTrue h => subst h; simp [exec, execCancelByte, rxByte, Config.flagByte, Config.cancelByte]
  rfl

/-- The instruction of an offered event does what the event does. -/
theorem exec_decodeEvent (e : InputEvent) (s : State) : exec (decodeEvent e) s = .next (runEvent e s) := by
  cases e with
  | rxByte b => exact exec_decodeByte b s
  | send | cancel | resetReq | tick | connLost => rfl

/-- A frame's instruction is the receive rule of its kind; only an RSTACK of another version is dropped
(42_frame_receive.md R160, 30_encoding.md R93). -/
theorem exec_toInstr (F : Frame) (s : State) :
    exec F.toInstr s =
      .next (if F.wf then receiveFrame Config.block F s else diag (.dropped .badVersion) s) := by
  cases F with
  | rstack version code =>
    simp [exec, execRstack, receiveFrame, Frame.toInstr, Frame.wf, Instr.wf]
  | data | ack | nak | rst | error => rfl

/-- Every instruction is a parsed frame, RX_BYTE of a byte, or what an offered event is. -/
theorem instr_cases (i : Instr) :
    (∃ F : Frame, i = F.toInstr) ∨ (∃ b, i = .rxByte b) ∨ ∃ e, i = decodeEvent e := by
  cases i with
  | data frm re ackNum payload => exact .inl ⟨.data frm re ackNum payload, rfl⟩
  | ack res nrdy ackNum => exact .inl ⟨.ack res nrdy ackNum, rfl⟩
  | nak res nrdy ackNum => exact .inl ⟨.nak res nrdy ackNum, rfl⟩
  | rst => exact .inl ⟨.rst, rfl⟩
  | rstack version code => exact .inl ⟨.rstack version code, rfl⟩
  | error version code => exact .inl ⟨.error version code, rfl⟩
  | rxByte b => exact .inr (.inl ⟨b, rfl⟩)
  | flag => exact .inr (.inr ⟨.rxByte Config.flagByte, rfl⟩)
  | escape => exact .inr (.inr ⟨.rxByte Config.escapeByte, rfl⟩)
  | xon => exact .inr (.inr ⟨.rxByte Config.xonByte, rfl⟩)
  | xoff => exact .inr (.inr ⟨.rxByte Config.xoffByte, rfl⟩)
  | substitute => exact .inr (.inr ⟨.rxByte Config.substituteByte, rfl⟩)
  | cancelByte => exact .inr (.inr ⟨.rxByte Config.cancelByte, rfl⟩)
  | send P => exact .inr (.inr ⟨.send P, rfl⟩)
  | cancel f => exact .inr (.inr ⟨.cancel f, rfl⟩)
  | resetReq => exact .inr (.inr ⟨.resetReq, rfl⟩)
  | tick => exact .inr (.inr ⟨.tick, rfl⟩)
  | connLost => exact .inr (.inr ⟨.connLost, rfl⟩)

/-- What a step that answers a next state can have done, with the event's effect for its instruction. -/
theorem step_runs_event {s t : State} (h : step s = .next t) :
    t = s ∨ ∃ e rest, t = runEvent e { s with input := rest } := by
  obtain rfl | ⟨e, rest, -, he⟩ := step_cases h
  · exact .inl rfl
  · rw [exec_decodeEvent] at he
    exact .inr ⟨e, rest, (Host.Outcome.next.inj he).symm⟩

end Sys2Proof.Machine
end

/-! ### Scope: the receive pipeline, which the link's rules leave alone -/

section
namespace Sys2Proof.Machine

/-- The receive pipeline's two registers, RX_BUF and RX_DISCARD (10_state.md R38, R39). -/
def rxPipeline (s : State) : Bytes × Bool := (s.rxBuf, s.rxDiscard)

theorem rxPipeline_eq_iff (s t : State) :
    rxPipeline t = rxPipeline s ↔ t.rxBuf = s.rxBuf ∧ t.rxDiscard = s.rxDiscard :=
  Prod.mk_inj

@[simp] theorem rxPipeline_emit (F : Frame) (s : State) : rxPipeline (emit F s) = rxPipeline s := rfl
@[simp] theorem rxPipeline_report (e : UpEvent) (s : State) : rxPipeline (report e s) = rxPipeline s := rfl
@[simp] theorem rxPipeline_diag (k : Diag) (s : State) : rxPipeline (diag k s) = rxPipeline s := rfl
@[simp] theorem rxPipeline_setSlot (f : SeqNum) (x : Slot) (s : State) :
    rxPipeline (setSlot f x s) = rxPipeline s := rfl
@[simp] theorem rxPipeline_clearPause (s : State) : rxPipeline (clearPause s) = rxPipeline s := rfl
@[simp] theorem rxPipeline_failHandshake (s : State) : rxPipeline (failHandshake s) = rxPipeline s := rfl
@[simp] theorem rxPipeline_release (f : SeqNum) (status : Status) (s : State) :
    rxPipeline (release f status s) = rxPipeline s := rfl

@[simp] theorem rxPipeline_transmitOrHold (f : SeqNum) (s : State) :
    rxPipeline (transmitOrHold f s) = rxPipeline s := by
  rw [transmitOrHold_frame]; rfl

@[simp] theorem rxPipeline_enterFailed (cause : FailCause) (culprit : Option SeqNum) (s : State) :
    rxPipeline (enterFailed cause culprit s) = rxPipeline s := by
  cases h : s.ncpState with
  | failed => rw [enterFailed_of_failed cause culprit s h]
  | connected => rw [enterFailed_of_connected cause culprit s h]; rfl

@[simp] theorem rxPipeline_handshakeComplete (code : Byte) (s : State) :
    rxPipeline (handshakeComplete code s) = rxPipeline s := by
  rw [handshakeComplete_eq]; rfl

@[simp] theorem rxPipeline_resetRequest (s : State) : rxPipeline (resetRequest s) = rxPipeline s := by
  rw [resetRequest_eq]; rfl

@[simp] theorem rxPipeline_ackProcess (p : Config.Params) (a : SeqNum) (s : State) :
    rxPipeline (ackProcess p a s) = rxPipeline s := by
  rw [ackProcess_frame]; rfl

@[simp] theorem rxPipeline_resume (s : State) : rxPipeline (resume s) = rxPipeline s := by
  rw [resume_eq]; rfl

@[simp] theorem rxPipeline_nrdyUpdate (p : Config.Params) (bit : Bit) (s : State) :
    rxPipeline (nrdyUpdate p bit s) = rxPipeline s := by
  unfold nrdyUpdate
  split
  · split
    · rfl
    · split <;> simp
  · rfl

@[simp] theorem rxPipeline_acceptData (payload : Bytes) (s : State) :
    rxPipeline (acceptData payload s) = rxPipeline s := rfl

@[simp] theorem rxPipeline_replayData (p : Config.Params) (payload : Bytes) (s : State) :
    rxPipeline (replayData p payload s) = rxPipeline s := by
  simp only [replayData]
  split <;> simp

@[simp] theorem rxPipeline_rejectData (s : State) : rxPipeline (rejectData s) = rxPipeline s := rfl

/-- No frame's rule touches the receive pipeline (10_state.md R38, R39). -/
@[simp] theorem rxPipeline_receiveFrame (p : Config.Params) (F : Frame) (s : State) :
    rxPipeline (receiveFrame p F s) = rxPipeline s := by
  cases F with
  | data frm re ackNum payload =>
    show rxPipeline (receiveData p frm re ackNum payload s) = _
    simp only [receiveData]
    split
    · split <;> simp
    · simp
  | ack res nrdy ackNum =>
    show rxPipeline (receiveAck p nrdy ackNum s) = _
    unfold receiveAck
    split <;> simp
  | nak res nrdy ackNum =>
    show rxPipeline (receiveNak p nrdy ackNum s) = _
    unfold receiveNak
    split
    · rw [rxPipeline_nrdyUpdate]
      split <;> simp
    · simp
  | rst => rfl
  | rstack version code =>
    show rxPipeline (receiveRstack code s) = _
    simp only [receiveRstack]
    split
    · simp
    · split <;> simp
  | error version code => exact rxPipeline_enterFailed _ _ s

@[simp] theorem rxPipeline_sendRequest (p : Config.Params) (P : Bytes) (s : State) :
    rxPipeline (sendRequest p P s) = rxPipeline s := by
  unfold sendRequest
  split
  · simp
  · split
    · rfl
    · simp only [acceptSend, rxPipeline_transmitOrHold, rxPipeline_report, rxPipeline_setSlot]; rfl

@[simp] theorem rxPipeline_cancelRequest (f : SeqNum) (s : State) :
    rxPipeline (cancelRequest f s) = rxPipeline s := by
  unfold cancelRequest
  split <;> simp

@[simp] theorem rxPipeline_connectionLost (s : State) : rxPipeline (connectionLost s) = rxPipeline s := by
  unfold connectionLost
  rw [rxPipeline_enterFailed]
  split <;> simp

@[simp] theorem rxPipeline_timeout (f : SeqNum) (s : State) : rxPipeline (timeout f s) = rxPipeline s := by
  simp only [timeout]
  split
  · simp only [rxPipeline_transmitOrHold, rxPipeline_setSlot]; rfl
  · rw [rxPipeline_enterFailed]; rfl

@[simp] theorem rxPipeline_tickTimeouts (s : State) : rxPipeline (tickTimeouts s) = rxPipeline s :=
  runTimeouts_keeps (P := fun t => rxPipeline t = rxPipeline s)
    (fun f t _ ht => (rxPipeline_timeout f t).trans ht) _ s rfl

@[simp] theorem rxPipeline_tickResetDeadline (s : State) :
    rxPipeline (tickResetDeadline s) = rxPipeline s := by
  unfold tickResetDeadline
  split <;> simp

@[simp] theorem rxPipeline_tickNrdyExpiry (s : State) : rxPipeline (tickNrdyExpiry s) = rxPipeline s := by
  unfold tickNrdyExpiry
  split <;> simp

@[simp] theorem rxPipeline_tickEvent (s : State) : rxPipeline (tickEvent s) = rxPipeline s := by
  simp only [tickEvent, rxPipeline_tickTimeouts, rxPipeline_tickNrdyExpiry, rxPipeline_tickResetDeadline]
  rfl

/-- The rule of an event that is no received byte leaves the receive pipeline alone. -/
theorem rxPipeline_runEvent {e : InputEvent} (he : ∀ b, e ≠ .rxByte b) (s : State) :
    rxPipeline (runEvent e s) = rxPipeline s := by
  cases e with
  | rxByte b => exact absurd rfl (he b)
  | send P => exact rxPipeline_sendRequest _ P s
  | cancel f => exact rxPipeline_cancelRequest f s
  | resetReq => exact rxPipeline_resetRequest s
  | tick => exact rxPipeline_tickEvent s
  | connLost => exact rxPipeline_connectionLost s

/-- Settles O55: a frame's rule and a host event's rule each leave `rxPipeline` alone. -/
theorem linkRulesLeaveReceivePipeline : Obligations.LinkRulesLeaveReceivePipeline := by
  unfold Obligations.LinkRulesLeaveReceivePipeline
  intro s t i hi ht
  rw [← rxPipeline_eq_iff]
  have of_event : ∀ e : InputEvent, i = decodeEvent e → (∀ b, e ≠ .rxByte b) →
      rxPipeline t = rxPipeline s := by
    rintro e rfl he
    rw [exec_decodeEvent] at ht
    cases ht
    exact rxPipeline_runEvent he s
  obtain ⟨F, rfl⟩ | ⟨P, hP⟩ | ⟨f, hf⟩ | hreset | htick | hlost := hi
  · rw [exec_toInstr] at ht
    cases ht
    split <;> simp
  · exact of_event (.send P) hP nofun
  · exact of_event (.cancel f) hf nofun
  · exact of_event .resetReq hreset nofun
  · exact of_event .tick htick nofun
  · exact of_event .connLost hlost nofun

end Sys2Proof.Machine
end

/-! ### Scope: the invariant of the block

The invariant splits in two: `RxSafe`, of the receive pipeline, and `LinkSafe`, of everything else. A TICK
breaks and restores clauses of `LinkSafe` between its parts, so `LinkSafe` names what may still be outstanding: the
slots that may stand past their deadline and the ends of the two timers. -/

section
namespace Sys2Proof.Machine

/-! #### The two halves of the invariant -/

/-- The range of T_RX_ACK, and so of every deadline taken from it (43_tx_engine.md R219). -/
def AckTimeoutInRange (T : BitVec 12) : Prop := 400 ≤ T.toNat ∧ T.toNat ≤ 3200

/-- A transmission on the wire is before its deadline (43_tx_engine.md R207). -/
def OnTime (x : Slot) : Prop := x.state = .waitAck → x.elapsed.toNat < x.deadline.toNat

/-- What the invariant asks of one slot, its elapsed count apart: `up` says whether the link is up, `paused`
whether the not-ready pause lasts. -/
structure SlotFits (up paused : Bool) (x : Slot) : Prop where
  busyUp : x.state ≠ .free → up = true
  heldPaused : x.state = .waitTx → paused = true
  deadlineRange : x.state = .waitAck → AckTimeoutInRange x.deadline

/-- The invariant of the link and the transmit engine, with the slots `late` allowed past their deadline and
the timers below the given ends. -/
structure LinkSafe (late : List SeqNum) (resetEnd nrdyEnd : Nat) (s : State) : Prop where
  window : busyCount s ≤ 5
  ackTimeout : AckTimeoutInRange s.tRxAck
  slotFits : ∀ f, SlotFits (linkUp s) s.remoteNrdy (slotAt s f)
  onTime : ∀ f, f ∉ late → OnTime (slotAt s f)
  resetTimerRange : s.resetTimer.toNat < resetEnd
  resetTimerIdle : s.resetPending = false → s.resetTimer = 0
  nrdyTimerRange : s.nrdyTimer.toNat < nrdyEnd
  nrdyTimerIdle : s.remoteNrdy = false → s.nrdyTimer = 0
  pauseAllowed : s.remoteNrdy = true → Config.block.nrdyPause = true
  pauseLinkUp : s.remoteNrdy = true → linkUp s = true

/-- The invariant of the receive pipeline (10_state.md R38, 41_rx_pipeline.md R141). -/
structure RxSafe (s : State) : Prop where
  clean : ∀ b ∈ s.rxBuf, isStray b = false
  bound : ∀ most, Config.block.rxBufMax = some most → s.rxBuf.length ≤ most
  discardEmpty : s.rxDiscard = true → s.rxBuf = []

/-- The invariant is its two halves, with nothing outstanding. -/
theorem safe_iff (s : State) : Safe s ↔ LinkSafe [] 5000 1000 s ∧ RxSafe s where
  mp h :=
    ⟨{ window := h.window
       ackTimeout := ⟨h.ackTimeoutLow, h.ackTimeoutHigh⟩
       slotFits := fun f =>
        { busyUp := fun hf => h.busyLinkUp f ((busy_iff s f).2 hf)
          heldPaused := h.waitTxPaused f
          deadlineRange := h.deadlineRange f }
       onTime := fun f _ => h.beforeDeadline f
       resetTimerRange := h.resetTimerRange
       resetTimerIdle := h.resetTimerIdle
       nrdyTimerRange := h.nrdyTimerRange
       nrdyTimerIdle := h.nrdyTimerIdle
       pauseAllowed := h.pauseAllowed
       pauseLinkUp := h.pauseLinkUp },
      ⟨h.rxBufClean, h.rxBufBound, h.discardEmpty⟩⟩
  mpr := fun ⟨hl, hr⟩ =>
    { window := hl.window
      ackTimeoutLow := hl.ackTimeout.1
      ackTimeoutHigh := hl.ackTimeout.2
      busyLinkUp := fun f hf => (hl.slotFits f).busyUp ((busy_iff s f).1 hf)
      rxBufClean := hr.clean
      rxBufBound := hr.bound
      discardEmpty := hr.discardEmpty
      resetTimerRange := hl.resetTimerRange
      resetTimerIdle := hl.resetTimerIdle
      nrdyTimerRange := hl.nrdyTimerRange
      nrdyTimerIdle := hl.nrdyTimerIdle
      pauseAllowed := hl.pauseAllowed
      pauseLinkUp := hl.pauseLinkUp
      waitTxPaused := fun f => (hl.slotFits f).heldPaused
      deadlineRange := fun f => (hl.slotFits f).deadlineRange
      beforeDeadline := fun f => hl.onTime f List.not_mem_nil }

/-! #### Slots -/

theorem ackTimeoutInRange_backoff {T : BitVec 12} (h : AckTimeoutInRange T) : AckTimeoutInRange (backoff T) := by
  simp only [AckTimeoutInRange, backoff_toNat] at h ⊢
  omega

theorem slotFits_of_free {up paused : Bool} {x : Slot} (h : x.state = .free) : SlotFits up paused x where
  busyUp hb := absurd h hb
  heldPaused hw := by simp [h] at hw
  deadlineRange hw := by simp [h] at hw

theorem onTime_of_free {x : Slot} (h : x.state = .free) : OnTime x := fun hw => by simp [h] at hw

/-- A slot `y` that is FREE, or is the slot `x` but for its payload and its attempt. -/
def KeptOrFreed (x y : Slot) : Prop :=
  y.state = .free ∨ (y.state = x.state ∧ y.deadline = x.deadline ∧ y.elapsed = x.elapsed)

theorem keptOrFreed_self (x : Slot) : KeptOrFreed x x := .inr ⟨rfl, rfl, rfl⟩

theorem SlotFits.of_keptOrFreed {up paused : Bool} {x y : Slot} (h : KeptOrFreed x y)
    (hx : SlotFits up paused x) : SlotFits up paused y := by
  obtain hfree | ⟨hstate, hdeadline, -⟩ := h
  · exact slotFits_of_free hfree
  · exact ⟨hstate ▸ hx.busyUp, hstate ▸ hx.heldPaused, hstate ▸ hdeadline ▸ hx.deadlineRange⟩

/-- A millisecond changes nothing of a slot but its elapsed count. -/
theorem SlotFits.elapseSlot {up paused : Bool} {x : Slot} (hx : SlotFits up paused x) :
    SlotFits up paused (elapseSlot x) where
  busyUp := by simpa using hx.busyUp
  heldPaused := by simpa using hx.heldPaused
  deadlineRange := by simpa using hx.deadlineRange

theorem OnTime.of_keptOrFreed {x y : Slot} (h : KeptOrFreed x y) (hx : OnTime x) : OnTime y := by
  obtain hfree | ⟨hstate, hdeadline, helapsed⟩ := h
  · exact onTime_of_free hfree
  · rw [OnTime, hstate, hdeadline, helapsed]
    exact hx

theorem busy_of_keptOrFreed {s t : State} {f : SeqNum} (h : KeptOrFreed (slotAt s f) (slotAt t f))
    (hb : busy t f = true) : busy s f = true := by
  rw [busy_iff] at hb ⊢
  obtain hfree | ⟨hstate, -⟩ := h
  · exact absurd hfree hb
  · exact hstate ▸ hb

/-- With every slot FREE none counts as busy. -/
theorem busyCount_of_all_free {s : State} (h : ∀ f, (slotAt s f).state = .free) : busyCount s = 0 := by
  rw [busyCount_eq s 0, List.countP_eq_zero]
  simp [busy, h]

/-- A state whose slots are those of another with SLOT_STATE cleared holds no request. -/
theorem slotAt_state_of_slots_freed {V : Vector Slot 8} {t : State}
    (h : t.slots = V.map fun x => { x with state := .free }) (f : SeqNum) : (slotAt t f).state = .free := by
  simp [slotAt, h]

/-! #### Rules of `LinkSafe` -/

/-- The registers of the link, the reset handshake and the pause are the same. -/
structure SameLink (s t : State) : Prop where
  ncpState : t.ncpState = s.ncpState
  resetPending : t.resetPending = s.resetPending
  resetTimer : t.resetTimer = s.resetTimer
  remoteNrdy : t.remoteNrdy = s.remoteNrdy
  nrdyTimer : t.nrdyTimer = s.nrdyTimer

theorem SameLink.linkUp {s t : State} (h : SameLink s t) : linkUp t = linkUp s := by
  simp [Machine.linkUp, h.ncpState, h.resetPending]

section
variable {late : List SeqNum} {resetEnd nrdyEnd : Nat} {s t : State}

/-- While the link is not up no slot is busy (10_state.md R42). -/
theorem LinkSafe.free_of_link_down (hs : LinkSafe late resetEnd nrdyEnd s) (hdown : linkUp s = false)
    (f : SeqNum) : (slotAt s f).state = .free := by
  by_contra hbusy
  exact absurd ((hs.slotFits f).busyUp hbusy) (by simp [hdown])

/-- While the link is not up there is no pause (44_link_control.md R240, R244). -/
theorem LinkSafe.no_pause_of_link_down (hs : LinkSafe late resetEnd nrdyEnd s) (hdown : linkUp s = false) :
    s.remoteNrdy = false := by
  by_contra hpause
  exact absurd (hs.pauseLinkUp (by simpa using hpause)) (by simp [hdown])

theorem link_down_of_resetPending (h : s.resetPending = true) : linkUp s = false := by
  simp [linkUp, h]

theorem link_down_of_failed (h : s.ncpState = .failed) : linkUp s = false := by
  simp [linkUp, h]

/-- A slot that may be late no longer has to be listed once it is on time. -/
theorem LinkSafe.with_late (hs : LinkSafe late resetEnd nrdyEnd s) {late' : List SeqNum}
    (h : ∀ f ∈ late, f ∉ late' → OnTime (slotAt s f)) : LinkSafe late' resetEnd nrdyEnd s :=
  { hs with onTime := fun f hf => if hl : f ∈ late then h f hl hf else hs.onTime f hl }

/-- While the link is not up no slot is late, as none is busy. -/
theorem LinkSafe.with_late_of_link_down (hs : LinkSafe late resetEnd nrdyEnd s) (hdown : linkUp s = false)
    (late' : List SeqNum) : LinkSafe late' resetEnd nrdyEnd s :=
  hs.with_late fun f _ _ => onTime_of_free (hs.free_of_link_down hdown f)

/-- A rule that leaves the link's registers alone has only its slots and T_RX_ACK to answer for. -/
theorem LinkSafe.of_sameLink (hs : LinkSafe late resetEnd nrdyEnd s) (h : SameLink s t)
    (window : busyCount t ≤ 5) (ackTimeout : AckTimeoutInRange t.tRxAck)
    (slotFits : ∀ f, SlotFits (linkUp s) s.remoteNrdy (slotAt t f))
    (onTime : ∀ f, f ∉ late → OnTime (slotAt t f)) : LinkSafe late resetEnd nrdyEnd t where
  window := window
  ackTimeout := ackTimeout
  slotFits f := h.linkUp ▸ h.remoteNrdy ▸ slotFits f
  onTime := onTime
  resetTimerRange := h.resetTimer ▸ hs.resetTimerRange
  resetTimerIdle := h.resetPending ▸ h.resetTimer ▸ hs.resetTimerIdle
  nrdyTimerRange := h.nrdyTimer ▸ hs.nrdyTimerRange
  nrdyTimerIdle := h.remoteNrdy ▸ h.nrdyTimer ▸ hs.nrdyTimerIdle
  pauseAllowed := h.remoteNrdy ▸ hs.pauseAllowed
  pauseLinkUp := h.linkUp ▸ h.remoteNrdy ▸ hs.pauseLinkUp

/-- A rule that leaves the link's registers alone and at most frees slots, or rewrites payloads and attempts,
keeps the invariant. -/
theorem LinkSafe.of_keptOrFreed (hs : LinkSafe late resetEnd nrdyEnd s) (h : SameLink s t)
    (ackTimeout : AckTimeoutInRange t.tRxAck) (slots : ∀ f, KeptOrFreed (slotAt s f) (slotAt t f)) :
    LinkSafe late resetEnd nrdyEnd t :=
  hs.of_sameLink h ((busyCount_mono fun f => busy_of_keptOrFreed (slots f)).trans hs.window) ackTimeout
    (fun f => (hs.slotFits f).of_keptOrFreed (slots f)) fun f hf => (hs.onTime f hf).of_keptOrFreed (slots f)

/-- A state with no request and no pause is safe when its reset timer and T_RX_ACK are. -/
theorem linkSafe_of_all_free (free : ∀ f, (slotAt t f).state = .free) (ackTimeout : AckTimeoutInRange t.tRxAck)
    (resetTimerRange : t.resetTimer.toNat < resetEnd)
    (resetTimerIdle : t.resetPending = false → t.resetTimer = 0)
    (noPause : t.remoteNrdy = false) (nrdyTimer : t.nrdyTimer = 0) (nrdyEnd_pos : 0 < nrdyEnd) :
    LinkSafe late resetEnd nrdyEnd t where
  window := by simp [busyCount_of_all_free free]
  ackTimeout := ackTimeout
  slotFits f := slotFits_of_free (free f)
  onTime f _ := onTime_of_free (free f)
  resetTimerRange := resetTimerRange
  resetTimerIdle := resetTimerIdle
  nrdyTimerRange := by simpa [nrdyTimer] using nrdyEnd_pos
  nrdyTimerIdle _ := nrdyTimer
  pauseAllowed hp := by simp [noPause] at hp
  pauseLinkUp hp := by simp [noPause] at hp

theorem LinkSafe.nrdyEnd_pos (hs : LinkSafe late resetEnd nrdyEnd s) : 0 < nrdyEnd :=
  Nat.zero_lt_of_lt hs.nrdyTimerRange

/-! #### Outputs and completions -/

theorem LinkSafe.emit (hs : LinkSafe late resetEnd nrdyEnd s) (F : Frame) :
    LinkSafe late resetEnd nrdyEnd (emit F s) :=
  hs.of_keptOrFreed ⟨rfl, rfl, rfl, rfl, rfl⟩ hs.ackTimeout fun f => keptOrFreed_self (slotAt s f)

theorem LinkSafe.report (hs : LinkSafe late resetEnd nrdyEnd s) (e : UpEvent) :
    LinkSafe late resetEnd nrdyEnd (report e s) :=
  hs.of_keptOrFreed ⟨rfl, rfl, rfl, rfl, rfl⟩ hs.ackTimeout fun f => keptOrFreed_self (slotAt s f)

theorem LinkSafe.diag (hs : LinkSafe late resetEnd nrdyEnd s) (k : Diag) :
    LinkSafe late resetEnd nrdyEnd (diag k s) :=
  hs.of_keptOrFreed ⟨rfl, rfl, rfl, rfl, rfl⟩ hs.ackTimeout fun f => keptOrFreed_self (slotAt s f)

theorem LinkSafe.with_rxSeq (hs : LinkSafe late resetEnd nrdyEnd s) (n : SeqNum) :
    LinkSafe late resetEnd nrdyEnd { s with rxSeq := n } :=
  hs.of_keptOrFreed ⟨rfl, rfl, rfl, rfl, rfl⟩ hs.ackTimeout fun f => keptOrFreed_self (slotAt s f)

theorem LinkSafe.with_input (hs : LinkSafe late resetEnd nrdyEnd s) (offers : List InputEvent) :
    LinkSafe late resetEnd nrdyEnd { s with input := offers } :=
  hs.of_keptOrFreed ⟨rfl, rfl, rfl, rfl, rfl⟩ hs.ackTimeout fun f => keptOrFreed_self (slotAt s f)

theorem LinkSafe.with_rxPipeline (hs : LinkSafe late resetEnd nrdyEnd s) (buf : Bytes) (discard : Bool) :
    LinkSafe late resetEnd nrdyEnd { s with rxBuf := buf, rxDiscard := discard } :=
  hs.of_keptOrFreed ⟨rfl, rfl, rfl, rfl, rfl⟩ hs.ackTimeout fun f => keptOrFreed_self (slotAt s f)

theorem LinkSafe.release (hs : LinkSafe late resetEnd nrdyEnd s) (f : SeqNum) (status : Status) :
    LinkSafe late resetEnd nrdyEnd (release f status s) := by
  refine hs.of_keptOrFreed ⟨rfl, rfl, rfl, rfl, rfl⟩ hs.ackTimeout fun g => ?_
  rw [slotAt_release]
  split
  · exact .inl rfl
  · exact keptOrFreed_self _

theorem LinkSafe.completeOk (hs : LinkSafe late resetEnd nrdyEnd s) (f : SeqNum) :
    LinkSafe late resetEnd nrdyEnd (completeOk f s) := by
  refine hs.of_keptOrFreed ⟨rfl, rfl, rfl, rfl, rfl⟩ (rttUpdate_range _ _) fun g => ?_
  rw [slotAt_completeOk]
  split
  · exact .inl rfl
  · exact keptOrFreed_self _

theorem LinkSafe.ackProcess (hs : LinkSafe late resetEnd nrdyEnd s) (p : Config.Params) (a : SeqNum) :
    LinkSafe late resetEnd nrdyEnd (ackProcess p a s) := by
  unfold Machine.ackProcess
  split
  · split
    · exact hs.completeOk _
    · exact foldl_keeps (fun f _ ht => ht.completeOk f) _ s hs
  · exact hs.diag _

/-! #### Transmissions -/

theorem sameLink_transmitOrHold (f : SeqNum) (s : State) : SameLink s (transmitOrHold f s) := by
  rw [transmitOrHold_frame]
  exact ⟨rfl, rfl, rfl, rfl, rfl⟩

theorem onTime_transmitOrHold (f : SeqNum) (h : AckTimeoutInRange s.tRxAck) :
    OnTime (slotAt (transmitOrHold f s) f) := by
  obtain ⟨hlow, -⟩ := h
  rw [slotAt_transmitOrHold, if_pos rfl]
  split
  · exact nofun
  · intro _
    show 0 < s.tRxAck.toNat
    omega

/-- Transmitting a slot, or holding it, keeps the invariant while the link is up and the window has room. -/
theorem LinkSafe.transmitOrHold (hs : LinkSafe late resetEnd nrdyEnd s) (f : SeqNum) (up : linkUp s = true)
    (window : busyCount (transmitOrHold f s) ≤ 5) : LinkSafe late resetEnd nrdyEnd (transmitOrHold f s) := by
  refine hs.of_sameLink (sameLink_transmitOrHold f s) window ?_ (fun g => ?_) fun g hg => ?_
  · rw [transmitOrHold_frame]
    exact hs.ackTimeout
  · rw [slotAt_transmitOrHold]
    split
    · split
      next paused => exact ⟨fun _ => up, fun _ => paused, nofun⟩
      next => exact ⟨fun _ => up, nofun, fun _ => hs.ackTimeout⟩
    · exact hs.slotFits g
  · by_cases h : f = g
    · subst h
      exact onTime_transmitOrHold f hs.ackTimeout
    · rw [slotAt_transmitOrHold, if_neg h]
      exact hs.onTime g hg

/-- The end of the pause, with every held slot transmitted (44_link_control.md R249), keeps the invariant. -/
theorem LinkSafe.resume_clearPause (hs : LinkSafe late resetEnd nrdyEnd s) {nrdyEnd' : Nat}
    (hpos : 0 < nrdyEnd') : LinkSafe late resetEnd nrdyEnd' (resume (clearPause s)) := by
  have hframe := resume_eq (clearPause s)
  have hslot := slotAt_resume (clearPause s)
  have hbusy : ∀ f, busy (resume (clearPause s)) f = true → busy s f = true := by
    intro f
    rw [busy_iff, busy_iff, hslot, slotAt_clearPause]
    split
    next hheld => simp [hheld]
    next => exact id
  have hup : linkUp (resume (clearPause s)) = linkUp s := by
    rw [hframe]; rfl
  exact {
    window := (busyCount_mono hbusy).trans hs.window
    ackTimeout := by rw [hframe]; exact hs.ackTimeout
    slotFits := fun f =>
      { busyUp := fun hf => hup ▸ (hs.slotFits f).busyUp ((busy_iff s f).1 (hbusy f ((busy_iff _ f).2 hf)))
        heldPaused := by
          rw [hslot]
          split
          · exact nofun
          next hnot => exact fun hheld => absurd hheld hnot
        deadlineRange := by
          rw [hslot]
          split
          · exact fun _ => hs.ackTimeout
          · exact (hs.slotFits f).deadlineRange }
    onTime := fun f hf => by
      rw [hslot]
      split
      · exact fun _ => Nat.lt_of_lt_of_le (by decide : 0 < 400) hs.ackTimeout.1
      · exact hs.onTime f hf
    resetTimerRange := by rw [hframe]; exact hs.resetTimerRange
    resetTimerIdle := by rw [hframe]; exact hs.resetTimerIdle
    nrdyTimerRange := by rw [hframe]; exact hpos
    nrdyTimerIdle := by rw [hframe]; exact fun _ => rfl
    pauseAllowed := by rw [hframe]; exact nofun
    pauseLinkUp := by rw [hframe]; exact nofun }

/-- NRDY_UPDATE keeps the invariant while the link is up: a pause begins only where NRDY_PAUSE allows it
(44_link_control.md R247). -/
theorem LinkSafe.nrdyUpdate (hs : LinkSafe late resetEnd nrdyEnd s) (bit : Bit) (up : linkUp s = true) :
    LinkSafe late resetEnd nrdyEnd (nrdyUpdate Config.block bit s) := by
  unfold Machine.nrdyUpdate
  split
  next allowed =>
    split
    · exact { hs with
        slotFits := fun f =>
          { busyUp := (hs.slotFits f).busyUp
            heldPaused := fun _ => rfl
            deadlineRange := (hs.slotFits f).deadlineRange }
        nrdyTimerRange := hs.nrdyEnd_pos
        nrdyTimerIdle := nofun
        pauseAllowed := fun _ => allowed
        pauseLinkUp := fun _ => up }
    · split
      · exact hs.resume_clearPause hs.nrdyEnd_pos
      · exact hs
  · exact hs

/-! #### The link goes down and comes up -/

/-- ENTER_FAILED ends in FAILED from either link state (44_link_control.md R244). -/
theorem enterFailed_ncpState (cause : FailCause) (culprit : Option SeqNum) (s : State) :
    (enterFailed cause culprit s).ncpState = .failed := by
  cases h : s.ncpState with
  | failed => rwa [enterFailed_of_failed cause culprit s h]
  | connected => rw [enterFailed_of_connected cause culprit s h]

theorem LinkSafe.enterFailed (hs : LinkSafe late resetEnd nrdyEnd s) (cause : FailCause)
    (culprit : Option SeqNum) : LinkSafe late resetEnd nrdyEnd (enterFailed cause culprit s) := by
  cases h : s.ncpState with
  | failed => rwa [enterFailed_of_failed cause culprit s h]
  | connected =>
    rw [enterFailed_of_connected cause culprit s h]
    exact linkSafe_of_all_free (slotAt_state_of_slots_freed rfl) hs.ackTimeout hs.resetTimerRange
      hs.resetTimerIdle rfl rfl hs.nrdyEnd_pos

theorem linkSafe_handshakeComplete (code : Byte) (s : State) :
    LinkSafe [] 5000 1000 (handshakeComplete code s) := by
  rw [handshakeComplete_eq]
  exact linkSafe_of_all_free (slotAt_state_of_slots_freed rfl) ⟨by simp, by simp⟩ (by simp) (fun _ => rfl) rfl rfl
    (by decide)

theorem LinkSafe.resetRequest (hs : LinkSafe late resetEnd nrdyEnd s) :
    LinkSafe late resetEnd nrdyEnd (resetRequest s) := by
  rw [resetRequest_eq]
  exact linkSafe_of_all_free (slotAt_state_of_slots_freed rfl) hs.ackTimeout
    (Nat.zero_lt_of_lt hs.resetTimerRange) nofun rfl rfl hs.nrdyEnd_pos

/-- Ending a handshake that is pending keeps the invariant, and its timer starts over. -/
theorem LinkSafe.failHandshake (hs : LinkSafe late resetEnd nrdyEnd s) (hp : s.resetPending = true)
    {resetEnd' : Nat} (hpos : 0 < resetEnd') : LinkSafe late resetEnd' nrdyEnd (failHandshake s) := by
  have hdown := link_down_of_resetPending hp
  have noPause := hs.no_pause_of_link_down hdown
  exact linkSafe_of_all_free (hs.free_of_link_down hdown) hs.ackTimeout hpos (fun _ => rfl) noPause
    (hs.nrdyTimerIdle noPause) hs.nrdyEnd_pos

theorem LinkSafe.connectionLost (hs : LinkSafe late resetEnd nrdyEnd s) :
    LinkSafe late resetEnd nrdyEnd (connectionLost s) := by
  refine LinkSafe.enterFailed ?_ _ _
  split
  next hp => exact hs.failHandshake hp (Nat.zero_lt_of_lt hs.resetTimerRange)
  next => exact hs

/-! #### Frames -/

theorem SameLink.ackProcess (p : Config.Params) (a : SeqNum) (s : State) : SameLink s (ackProcess p a s) := by
  rw [ackProcess_frame]
  exact ⟨rfl, rfl, rfl, rfl, rfl⟩

theorem LinkSafe.receiveData (hs : LinkSafe late resetEnd nrdyEnd s) (p : Config.Params) (frm : SeqNum)
    (re : Bit) (ackNum : SeqNum) (payload : Bytes) :
    LinkSafe late resetEnd nrdyEnd (receiveData p frm re ackNum payload s) := by
  simp only [Machine.receiveData]
  split
  · have ha := hs.ackProcess p ackNum
    split
    · exact ((ha.with_rxSeq _).emit _).report _
    · simp only [replayData]
      split
      · exact (ha.emit _).report _
      · exact ha.emit _
    · exact ((ha.emit _).emit _).diag _
  · exact hs.diag _

theorem LinkSafe.receiveAck (hs : LinkSafe late resetEnd nrdyEnd s) (nrdy : Bit) (ackNum : SeqNum) :
    LinkSafe late resetEnd nrdyEnd (receiveAck Config.block nrdy ackNum s) := by
  unfold Machine.receiveAck
  split
  next up => exact (hs.ackProcess _ ackNum).nrdyUpdate nrdy ((SameLink.ackProcess _ ackNum s).linkUp.trans up)
  next => exact hs.diag _

theorem LinkSafe.receiveNak (hs : LinkSafe late resetEnd nrdyEnd s) (nrdy : Bit) (ackNum : SeqNum) :
    LinkSafe late resetEnd nrdyEnd (receiveNak Config.block nrdy ackNum s) := by
  unfold Machine.receiveNak
  split
  next up =>
    split
    · exact (hs.release ackNum .notAcked).nrdyUpdate nrdy up
    · exact (hs.diag .unexpectedNak).nrdyUpdate nrdy up
  next => exact hs.diag _

theorem LinkSafe.receiveRstack (hs : LinkSafe [] 5000 1000 s) (code : Byte) :
    LinkSafe [] 5000 1000 (receiveRstack code s) := by
  simp only [Machine.receiveRstack]
  split
  · exact linkSafe_handshakeComplete code _
  · split
    · exact hs.report _
    · exact (hs.report _).enterFailed _ _

theorem LinkSafe.receiveFrame (hs : LinkSafe [] 5000 1000 s) (F : Frame) :
    LinkSafe [] 5000 1000 (receiveFrame Config.block F s) := by
  cases F with
  | data frm re ackNum payload => exact hs.receiveData _ frm re ackNum payload
  | ack res nrdy ackNum => exact hs.receiveAck nrdy ackNum
  | nak res nrdy ackNum => exact hs.receiveNak nrdy ackNum
  | rst => exact hs.diag _
  | rstack version code => exact hs.receiveRstack code
  | error version code => exact hs.enterFailed _ _

/-! #### Bytes -/

theorem LinkSafe.onFlag (hs : LinkSafe [] 5000 1000 s) : LinkSafe [] 5000 1000 (onFlag Config.block s) := by
  unfold Machine.onFlag processSegment
  have hclosed := hs.with_rxPipeline [] s.rxDiscard
  split
  · exact hs
  · split
    · exact hclosed.diag _
    · exact hclosed.receiveFrame _

theorem LinkSafe.onOther (hs : LinkSafe late resetEnd nrdyEnd s) (p : Config.Params) (b : Byte) :
    LinkSafe late resetEnd nrdyEnd (onOther p b s) := by
  unfold Machine.onOther
  split
  · exact (hs.with_rxPipeline [] true).diag _
  · exact hs.with_rxPipeline (s.rxBuf ++ [b]) s.rxDiscard

theorem LinkSafe.rxByte (hs : LinkSafe [] 5000 1000 s) (b : Byte) :
    LinkSafe [] 5000 1000 (rxByte Config.block b s) := by
  unfold Machine.rxByte
  split
  · split
    · exact hs.with_rxPipeline s.rxBuf false
    · exact hs
  split
  · exact hs.onFlag
  split
  · exact (hs.with_rxPipeline [] s.rxDiscard).diag _
  split
  · exact (hs.with_rxPipeline [] true).diag _
  split
  · exact hs.diag _
  split
  · exact hs.diag _
  · exact hs.onOther _ b

/-! #### SEND and CANCEL -/

/-- A SEND that is neither rejected nor held finds the link up, a permit, and slot TX_SEQ FREE
(43_tx_engine.md R201, R202). -/
theorem accepts_of_not_rejected_not_held {p : Config.Params} {P : Bytes} (hr : sendRejection p P s = none)
    (hh : sendHeld s = false) : linkUp s = true ∧ busyCount s < 5 ∧ busy s s.txSeq = false := by
  obtain ⟨hpermits, hfree⟩ : permits s ≠ 0 ∧ busy s s.txSeq = false := by simpa [sendHeld] using hh
  have hroom : busyCount s < 5 := by
    simp only [permits, Config.txK] at hpermits
    omega
  refine ⟨?_, hroom, hfree⟩
  by_cases hdown : s.ncpState = .failed ∨ s.resetPending = true
  · simp [sendRejection, hdown] at hr
  · obtain ⟨hncp, hpending⟩ := not_or.1 hdown
    cases hn : s.ncpState with
    | failed => exact absurd hn hncp
    | connected => simp [linkUp, hn, hpending]

/-- An accepted SEND makes no slot busy but TX_SEQ. -/
theorem busy_of_busy_acceptSend {P : Bytes} {f : SeqNum} (hf : f ≠ s.txSeq)
    (hb : busy (acceptSend P s) f = true) : busy s f = true := by
  rw [busy_iff] at hb ⊢
  simp only [acceptSend] at hb
  rw [slotAt_transmitOrHold, if_neg hf.symm, slotAt_report, slotAt_setSlot_ne hf.symm] at hb
  exact hb

theorem LinkSafe.acceptSend (hs : LinkSafe late resetEnd nrdyEnd s) (P : Bytes) (up : linkUp s = true)
    (room : busyCount s < 5) (free : busy s s.txSeq = false) :
    LinkSafe late resetEnd nrdyEnd (acceptSend P s) := by
  have window : busyCount (Machine.acceptSend P s) ≤ 5 :=
    (busyCount_le_succ s.txSeq free fun _ => busy_of_busy_acceptSend).trans room
  refine LinkSafe.transmitOrHold (LinkSafe.report ?_ _) s.txSeq up window
  refine hs.of_keptOrFreed ⟨rfl, rfl, rfl, rfl, rfl⟩ hs.ackTimeout fun f => ?_
  rw [slotAt_setSlot]
  split
  next h => subst h; exact .inl ((busy_eq_false_iff s _).1 free)
  next => exact keptOrFreed_self _

theorem LinkSafe.sendRequest (hs : LinkSafe late resetEnd nrdyEnd s) (p : Config.Params) (P : Bytes) :
    LinkSafe late resetEnd nrdyEnd (sendRequest p P s) := by
  unfold Machine.sendRequest
  split
  · exact hs.report _
  next hr =>
    split
    · exact hs
    next hh =>
      obtain ⟨up, room, free⟩ := accepts_of_not_rejected_not_held hr (by simpa using hh)
      exact hs.acceptSend P up room free

theorem LinkSafe.cancelRequest (hs : LinkSafe late resetEnd nrdyEnd s) (f : SeqNum) :
    LinkSafe late resetEnd nrdyEnd (cancelRequest f s) := by
  unfold Machine.cancelRequest
  split
  · exact hs.release f _
  · exact hs.diag _

/-! #### TICK -/

/-- A slot that does not time out is before its deadline (43_tx_engine.md R207). -/
theorem onTime_of_not_timedOut {f : SeqNum} (h : timedOut s f = false) : OnTime (slotAt s f) := by
  intro hw
  simpa [timedOut, hw] using h

/-- Parts 1 and 2 of a TICK: every slot may now be late, and the timers may stand at their ends. -/
theorem LinkSafe.tickTimers_tickElapsed (hs : LinkSafe [] 5000 1000 s) :
    LinkSafe (oldestFirst s.txSeq) 5001 1001 (tickTimers (tickElapsed s)) := by
  have hslot := slotAt_tickTimers_tickElapsed s
  have hbusy : ∀ f, busy (tickTimers (tickElapsed s)) f = true → busy s f = true := by
    intro f
    rw [busy_iff, busy_iff, hslot, elapseSlot_state]
    exact id
  have hreset := hs.resetTimerRange
  have hnrdy := hs.nrdyTimerRange
  exact {
    window := (busyCount_mono hbusy).trans hs.window
    ackTimeout := hs.ackTimeout
    slotFits := fun f => by
      rw [hslot]
      exact (hs.slotFits f).elapseSlot
    onTime := fun f hf => absurd (mem_oldestFirst _ f) hf
    resetTimerRange := by
      show (if s.resetPending then s.resetTimer + 1 else s.resetTimer).toNat < 5001
      split <;> bv_omega
    resetTimerIdle := fun hp => by
      show (if s.resetPending then s.resetTimer + 1 else s.resetTimer) = 0
      have hidle : s.resetPending = false := hp
      simpa [hidle] using hs.resetTimerIdle hidle
    nrdyTimerRange := by
      show (if s.remoteNrdy then s.nrdyTimer + 1 else s.nrdyTimer).toNat < 1001
      split <;> bv_omega
    nrdyTimerIdle := fun hp => by
      show (if s.remoteNrdy then s.nrdyTimer + 1 else s.nrdyTimer) = 0
      have hidle : s.remoteNrdy = false := hp
      simpa [hidle] using hs.nrdyTimerIdle hidle
    pauseAllowed := hs.pauseAllowed
    pauseLinkUp := hs.pauseLinkUp }

/-- Part 3 of a TICK brings RESET_TIMER below its end. -/
theorem LinkSafe.tickResetDeadline (hs : LinkSafe late 5001 nrdyEnd s) :
    LinkSafe late 5000 nrdyEnd (tickResetDeadline s) := by
  unfold Machine.tickResetDeadline
  split
  next h => exact (hs.failHandshake h.1 (by decide)).enterFailed _ _
  next h =>
    refine { hs with resetTimerRange := ?_ }
    cases hp : s.resetPending with
    | false => simp [hs.resetTimerIdle hp]
    | true => simpa [hp, Config.tReset] using h

/-- Part 4 of a TICK brings NRDY_TIMER below its end. -/
theorem LinkSafe.tickNrdyExpiry (hs : LinkSafe late resetEnd 1001 s) :
    LinkSafe late resetEnd 1000 (tickNrdyExpiry s) := by
  unfold Machine.tickNrdyExpiry
  split
  · exact hs.resume_clearPause (by decide)
  next h =>
    refine { hs with nrdyTimerRange := ?_ }
    cases hp : s.remoteNrdy with
    | false => simp [hs.nrdyTimerIdle hp]
    | true => simpa [hp, Config.tRemoteNotRdy] using h

/-- A timeout keeps the invariant, and either it leaves the slot on time or the link has failed
(43_tx_engine.md R208). -/
theorem LinkSafe.timeout (hs : LinkSafe late resetEnd nrdyEnd s) {f : SeqNum} (hf : timedOut s f = true) :
    LinkSafe late resetEnd nrdyEnd (timeout f s) ∧
      ((timeout f s).ncpState = .failed ∨ OnTime (slotAt (timeout f s) f)) := by
  have hrange := ackTimeoutInRange_backoff hs.ackTimeout
  have hbusy := busy_of_timedOut hf
  have up : linkUp s = true := (hs.slotFits f).busyUp ((busy_iff s f).1 hbusy)
  by_cases hattempt : (slotAt s f).attempt.toNat < 3
  · rw [timeout_of_attempt_left hattempt]
    have hbase : LinkSafe late resetEnd nrdyEnd
        (setSlot f { slotAt s f with attempt := (slotAt s f).attempt + 1 }
          { s with tRxAck := backoff s.tRxAck }) := by
      refine hs.of_keptOrFreed ⟨rfl, rfl, rfl, rfl, rfl⟩ hrange fun g => ?_
      rw [slotAt_setSlot]
      split
      next h => subst h; exact .inr ⟨rfl, rfl, rfl⟩
      next => exact keptOrFreed_self _
    refine ⟨hbase.transmitOrHold f up ((busyCount_mono fun g hg => ?_).trans hs.window),
      .inr (onTime_transmitOrHold f hrange)⟩
    by_cases hfg : f = g
    · exact hfg ▸ hbusy
    · rw [busy_iff, slotAt_transmitOrHold, if_neg hfg, slotAt_setSlot_ne hfg] at hg
      exact (busy_iff s g).2 hg
  · have hlast : (slotAt s f).attempt.toNat = 3 := by omega
    rw [timeout_of_last_attempt hlast]
    have hbase : LinkSafe late resetEnd nrdyEnd { s with tRxAck := backoff s.tRxAck } :=
      hs.of_keptOrFreed ⟨rfl, rfl, rfl, rfl, rfl⟩ hrange fun g => keptOrFreed_self (slotAt s g)
    exact ⟨hbase.enterFailed _ _, .inl (enterFailed_ncpState _ _ _)⟩

/-- The timeouts of one TICK leave no slot late (43_tx_engine.md R209). -/
theorem linkSafe_runTimeouts :
    ∀ (late : List SeqNum) (s : State), LinkSafe late resetEnd nrdyEnd s →
      LinkSafe [] resetEnd nrdyEnd (runTimeouts late s)
  | [], _, hs => hs
  | f :: late, s, hs => by
    unfold runTimeouts
    split
    next hf =>
      obtain ⟨ht, hfailed | hontime⟩ := hs.timeout hf
      · rw [if_pos hfailed]
        exact ht.with_late_of_link_down (link_down_of_failed hfailed) []
      · split
        next hfailed => exact ht.with_late_of_link_down (link_down_of_failed hfailed) []
        next =>
          refine linkSafe_runTimeouts late _ (ht.with_late fun g hg hrest => ?_)
          obtain rfl | hg := List.mem_cons.1 hg
          · exact hontime
          · exact absurd hg hrest
    next hf =>
      refine linkSafe_runTimeouts late s (hs.with_late fun g hg hrest => ?_)
      obtain rfl | hg := List.mem_cons.1 hg
      · exact onTime_of_not_timedOut (by simpa using hf)
      · exact absurd hg hrest

/-- Part 5 of a TICK leaves no slot late, as a slot it does not go over is FREE. -/
theorem LinkSafe.tickTimeouts (hs : LinkSafe late resetEnd nrdyEnd s) :
    LinkSafe [] resetEnd nrdyEnd (tickTimeouts s) := by
  refine linkSafe_runTimeouts _ s (hs.with_late fun f _ hf => onTime_of_free ?_)
  rwa [mem_busyOldestFirst, Bool.not_eq_true, busy_eq_false_iff] at hf

theorem LinkSafe.tickEvent (hs : LinkSafe [] 5000 1000 s) : LinkSafe [] 5000 1000 (tickEvent s) :=
  hs.tickTimers_tickElapsed.tickResetDeadline.tickNrdyExpiry.tickTimeouts

/-- Every event keeps the link's half of the invariant. -/
theorem LinkSafe.runEvent (hs : LinkSafe [] 5000 1000 s) (e : InputEvent) :
    LinkSafe [] 5000 1000 (runEvent e s) := by
  cases e with
  | rxByte b => exact hs.rxByte b
  | send P => exact hs.sendRequest _ P
  | cancel f => exact hs.cancelRequest f
  | resetReq => exact hs.resetRequest
  | tick => exact hs.tickEvent
  | connLost => exact hs.connectionLost

end

/-! #### The receive pipeline -/

section
variable {s t : State}

theorem rxSafe_of_empty (h : s.rxBuf = []) : RxSafe s where
  clean := by simp [h]
  bound := by simp [h]
  discardEmpty _ := h

theorem RxSafe.of_rxPipeline_eq (hs : RxSafe s) (h : rxPipeline t = rxPipeline s) : RxSafe t := by
  obtain ⟨hbuf, hdiscard⟩ := (rxPipeline_eq_iff s t).1 h
  exact ⟨hbuf ▸ hs.clean, hbuf ▸ hs.bound, hbuf ▸ hdiscard ▸ hs.discardEmpty⟩

/-- FLAG outside discard leaves RX_BUF empty, whatever the frame it closes does. -/
theorem RxSafe.onFlag (hs : RxSafe s) (p : Config.Params) : RxSafe (onFlag p s) := by
  have hclosed : RxSafe { s with rxBuf := [] } := rxSafe_of_empty rfl
  unfold Machine.onFlag processSegment
  split
  · exact hs
  · split
    · exact hclosed.of_rxPipeline_eq rfl
    · exact hclosed.of_rxPipeline_eq (rxPipeline_receiveFrame p _ _)

/-- A byte that is none of the five that RX_BUF never holds is appended only while there is room
(41_rx_pipeline.md R147, R148). -/
theorem RxSafe.onOther (hs : RxSafe s) {b : Byte} (hb : isStray b = false) (hd : s.rxDiscard = false) :
    RxSafe (onOther Config.block b s) := by
  unfold Machine.onOther
  split
  · exact rxSafe_of_empty rfl
  next hroom =>
    rw [rxFull_iff] at hroom
    refine ⟨?_, fun most hmost => ?_, fun h => absurd h (by simp [hd])⟩
    · intro c hc
      obtain hc | hc := List.mem_append.1 hc
      · exact hs.clean c hc
      · rwa [List.mem_singleton.1 hc]
    · have hle := hs.bound most hmost
      have hne : most ≠ s.rxBuf.length := fun h => hroom (h ▸ hmost)
      show (s.rxBuf ++ [b]).length ≤ most
      rw [List.length_append, List.length_singleton]
      omega

theorem RxSafe.rxByte (hs : RxSafe s) (b : Byte) : RxSafe (rxByte Config.block b s) := by
  unfold Machine.rxByte
  split
  next hd =>
    split
    · exact rxSafe_of_empty (hs.discardEmpty hd)
    · exact hs
  next hd =>
  split
  · exact hs.onFlag _
  next hflag =>
  split
  · exact rxSafe_of_empty rfl
  next hcancel =>
  split
  · exact rxSafe_of_empty rfl
  next hsubstitute =>
  split
  · exact hs.of_rxPipeline_eq rfl
  next hxon =>
  split
  · exact hs.of_rxPipeline_eq rfl
  next hxoff =>
    have hb : isStray b = false := by
      simp [isStray, isReserved, hflag, hcancel, hsubstitute, hxon, hxoff]
    exact hs.onOther hb (by simpa using hd)

/-- Every event keeps the receive pipeline's half of the invariant. -/
theorem RxSafe.runEvent (hs : RxSafe s) (e : InputEvent) : RxSafe (runEvent e s) := by
  by_cases hbyte : ∃ b, e = .rxByte b
  · obtain ⟨b, rfl⟩ := hbyte
    exact hs.rxByte b
  · exact hs.of_rxPipeline_eq (rxPipeline_runEvent (fun b he => hbyte ⟨b, he⟩) s)

end

/-! #### The invariant at power-on and over a step -/

theorem slotAt_reset (f : SeqNum) : slotAt State.reset f = Slot.reset := by
  simp [slotAt, State.reset]

/-- Settles O47: at power-on there is no request, no pause and nothing in RX_BUF. -/
theorem safeAtReset : Obligations.SafeAtReset := by
  unfold Obligations.SafeAtReset
  rw [safe_iff]
  have free : ∀ f, (slotAt State.reset f).state = .free := fun f => by rw [slotAt_reset]; rfl
  exact ⟨linkSafe_of_all_free free ⟨by decide, by decide⟩ (by decide) (fun _ => rfl) rfl rfl (by decide),
    rxSafe_of_empty rfl⟩

/-- Settles O48: each half of the invariant is kept by every event. -/
theorem stepKeepsSafe : Obligations.StepKeepsSafe := by
  unfold Obligations.StepKeepsSafe
  intro s t hs h
  obtain rfl | ⟨e, rest, rfl⟩ := step_runs_event h
  · exact hs
  · rw [safe_iff] at hs ⊢
    obtain ⟨hlink, hrx⟩ := hs
    have hrx' : RxSafe { s with input := rest } := hrx.of_rxPipeline_eq rfl
    exact ⟨(hlink.with_input rest).runEvent e, hrx'.runEvent e⟩

end Sys2Proof.Machine
end

/-! ### Scope: the output logs, which no rule reads -/

section
namespace Sys2Proof.Machine

section
variable (w : Bytes) (u : List UpEvent) (d : List Diag)

/-! #### Registers and predicates under earlier logs -/

@[simp] theorem withEarlierLogs_ncpState (s : State) : (withEarlierLogs w u d s).ncpState = s.ncpState := rfl
@[simp] theorem withEarlierLogs_txSeq (s : State) : (withEarlierLogs w u d s).txSeq = s.txSeq := rfl
@[simp] theorem withEarlierLogs_tRxAck (s : State) : (withEarlierLogs w u d s).tRxAck = s.tRxAck := rfl
@[simp] theorem withEarlierLogs_rxSeq (s : State) : (withEarlierLogs w u d s).rxSeq = s.rxSeq := rfl
@[simp] theorem slotAt_withEarlierLogs (s : State) (f : SeqNum) :
    slotAt (withEarlierLogs w u d s) f = slotAt s f := rfl
@[simp] theorem busyOldestFirst_withEarlierLogs (s : State) :
    busyOldestFirst (withEarlierLogs w u d s) = busyOldestFirst s := rfl
@[simp] theorem timedOut_withEarlierLogs (s : State) (f : SeqNum) :
    timedOut (withEarlierLogs w u d s) f = timedOut s f := rfl
@[simp] theorem sendRejection_withEarlierLogs (p : Config.Params) (P : Bytes) (s : State) :
    sendRejection p P (withEarlierLogs w u d s) = sendRejection p P s := rfl

/-! #### Every operation commutes with earlier logs -/

@[simp] theorem emit_withEarlierLogs (F : Frame) (s : State) :
    emit F (withEarlierLogs w u d s) = withEarlierLogs w u d (emit F s) := by
  simp [emit, withEarlierLogs]

@[simp] theorem report_withEarlierLogs (e : UpEvent) (s : State) :
    report e (withEarlierLogs w u d s) = withEarlierLogs w u d (report e s) := by
  simp [report, withEarlierLogs]

@[simp] theorem diag_withEarlierLogs (k : Diag) (s : State) :
    diag k (withEarlierLogs w u d s) = withEarlierLogs w u d (diag k s) := by
  simp [diag, withEarlierLogs]

@[simp] theorem setSlot_withEarlierLogs (f : SeqNum) (x : Slot) (s : State) :
    setSlot f x (withEarlierLogs w u d s) = withEarlierLogs w u d (setSlot f x s) := rfl

@[simp] theorem clearPause_withEarlierLogs (s : State) :
    clearPause (withEarlierLogs w u d s) = withEarlierLogs w u d (clearPause s) := rfl

@[simp] theorem slotFrame_withEarlierLogs (f : SeqNum) (s : State) :
    slotFrame f (withEarlierLogs w u d s) = slotFrame f s := rfl

/-- A choice between two operations commutes with earlier logs when both do. -/
theorem ite_withEarlierLogs {c : Prop} [Decidable c] {a b a' b' : State} (ha : a' = withEarlierLogs w u d a)
    (hb : b' = withEarlierLogs w u d b) :
    (if c then a' else b') = withEarlierLogs w u d (if c then a else b) := by
  split
  · exact ha
  · exact hb

@[simp] theorem transmitSlot_withEarlierLogs (f : SeqNum) (s : State) :
    transmitSlot f (withEarlierLogs w u d s) = withEarlierLogs w u d (transmitSlot f s) := by
  simp [transmitSlot]

@[simp] theorem holdSlot_withEarlierLogs (f : SeqNum) (s : State) :
    holdSlot f (withEarlierLogs w u d s) = withEarlierLogs w u d (holdSlot f s) := rfl

@[simp] theorem transmitOrHold_withEarlierLogs (f : SeqNum) (s : State) :
    transmitOrHold f (withEarlierLogs w u d s) = withEarlierLogs w u d (transmitOrHold f s) :=
  ite_withEarlierLogs w u d (holdSlot_withEarlierLogs w u d f s) (transmitSlot_withEarlierLogs w u d f s)

@[simp] theorem release_withEarlierLogs (f : SeqNum) (status : Status) (s : State) :
    release f status (withEarlierLogs w u d s) = withEarlierLogs w u d (release f status s) := by
  simp [release]

/-- An operation that commutes with earlier logs does so over a list of slots. -/
theorem foldl_withEarlierLogs {op : SeqNum → State → State}
    (h : ∀ f s, op f (withEarlierLogs w u d s) = withEarlierLogs w u d (op f s)) (l : List SeqNum) (s : State) :
    l.foldl (fun t f => op f t) (withEarlierLogs w u d s) =
      withEarlierLogs w u d (l.foldl (fun t f => op f t) s) :=
  List.foldl_hom (withEarlierLogs w u d) fun t f => h f t

@[simp] theorem releaseAll_withEarlierLogs (status : SeqNum → Status) (s : State) :
    releaseAll status (withEarlierLogs w u d s) = withEarlierLogs w u d (releaseAll status s) :=
  foldl_withEarlierLogs w u d (fun f => release_withEarlierLogs w u d f (status f)) _ s

@[simp] theorem enterFailed_withEarlierLogs (cause : FailCause) (culprit : Option SeqNum) (s : State) :
    enterFailed cause culprit (withEarlierLogs w u d s) =
      withEarlierLogs w u d (enterFailed cause culprit s) := by
  have hfailed : { withEarlierLogs w u d s with ncpState := .failed } =
      withEarlierLogs w u d { s with ncpState := .failed } := rfl
  refine ite_withEarlierLogs w u d rfl ?_
  rw [hfailed, releaseAll_withEarlierLogs, clearPause_withEarlierLogs, report_withEarlierLogs]

@[simp] theorem handshakeComplete_withEarlierLogs (code : Byte) (s : State) :
    handshakeComplete code (withEarlierLogs w u d s) = withEarlierLogs w u d (handshakeComplete code s) := by
  rw [handshakeComplete_eq, handshakeComplete_eq, busyOldestFirst_withEarlierLogs]
  simp [withEarlierLogs]

@[simp] theorem failHandshake_withEarlierLogs (s : State) :
    failHandshake (withEarlierLogs w u d s) = withEarlierLogs w u d (failHandshake s) :=
  report_withEarlierLogs w u d .resetFailed { s with resetPending := false, resetTimer := 0 }

@[simp] theorem completeOk_withEarlierLogs (f : SeqNum) (s : State) :
    completeOk f (withEarlierLogs w u d s) = withEarlierLogs w u d (completeOk f s) :=
  release_withEarlierLogs w u d f .ok { s with tRxAck := rttUpdate s.tRxAck (slotAt s f).elapsed }

@[simp] theorem ackProcess_withEarlierLogs (p : Config.Params) (a : SeqNum) (s : State) :
    ackProcess p a (withEarlierLogs w u d s) = withEarlierLogs w u d (ackProcess p a s) := by
  refine ite_withEarlierLogs w u d ?_ (diag_withEarlierLogs w u d _ s)
  cases p.ackScope with
  | lastOnly => exact completeOk_withEarlierLogs w u d _ s
  | cumulative => exact foldl_withEarlierLogs w u d (completeOk_withEarlierLogs w u d) _ s

@[simp] theorem resume_withEarlierLogs (s : State) :
    resume (withEarlierLogs w u d s) = withEarlierLogs w u d (resume s) :=
  foldl_withEarlierLogs w u d (transmitSlot_withEarlierLogs w u d) _ s

@[simp] theorem nrdyUpdate_withEarlierLogs (p : Config.Params) (bit : Bit) (s : State) :
    nrdyUpdate p bit (withEarlierLogs w u d s) = withEarlierLogs w u d (nrdyUpdate p bit s) :=
  ite_withEarlierLogs w u d
    (ite_withEarlierLogs w u d rfl
      (ite_withEarlierLogs w u d (resume_withEarlierLogs w u d (clearPause s)) rfl))
    rfl

@[simp] theorem timeout_withEarlierLogs (f : SeqNum) (s : State) :
    timeout f (withEarlierLogs w u d s) = withEarlierLogs w u d (timeout f s) :=
  ite_withEarlierLogs w u d
    (transmitOrHold_withEarlierLogs w u d f
      (setSlot f { slotAt s f with attempt := (slotAt s f).attempt + 1 } { s with tRxAck := backoff s.tRxAck }))
    (enterFailed_withEarlierLogs w u d _ _ { s with tRxAck := backoff s.tRxAck })

@[simp] theorem runTimeouts_withEarlierLogs :
    ∀ (l : List SeqNum) (s : State),
      runTimeouts l (withEarlierLogs w u d s) = withEarlierLogs w u d (runTimeouts l s)
  | [], _ => rfl
  | f :: l, s => by
    simp only [runTimeouts, timedOut_withEarlierLogs, timeout_withEarlierLogs, withEarlierLogs_ncpState]
    exact ite_withEarlierLogs w u d (ite_withEarlierLogs w u d rfl (runTimeouts_withEarlierLogs l _))
      (runTimeouts_withEarlierLogs l s)

/-! #### Frames -/

@[simp] theorem acceptData_withEarlierLogs (payload : Bytes) (s : State) :
    acceptData payload (withEarlierLogs w u d s) = withEarlierLogs w u d (acceptData payload s) := by
  have hadvance : { withEarlierLogs w u d s with rxSeq := s.rxSeq + 1 } =
      withEarlierLogs w u d { s with rxSeq := s.rxSeq + 1 } := rfl
  simp only [acceptData, withEarlierLogs_rxSeq, hadvance, emit_withEarlierLogs, report_withEarlierLogs]

@[simp] theorem replayData_withEarlierLogs (p : Config.Params) (payload : Bytes) (s : State) :
    replayData p payload (withEarlierLogs w u d s) = withEarlierLogs w u d (replayData p payload s) := by
  simp only [replayData, withEarlierLogs_rxSeq, emit_withEarlierLogs, report_withEarlierLogs]
  exact ite_withEarlierLogs w u d rfl rfl

@[simp] theorem rejectData_withEarlierLogs (s : State) :
    rejectData (withEarlierLogs w u d s) = withEarlierLogs w u d (rejectData s) := by
  simp [rejectData]

theorem receiveData_withEarlierLogs (p : Config.Params) (frm : SeqNum) (re : Bit) (ackNum : SeqNum)
    (payload : Bytes) (s : State) :
    receiveData p frm re ackNum payload (withEarlierLogs w u d s) =
      withEarlierLogs w u d (receiveData p frm re ackNum payload s) := by
  refine ite_withEarlierLogs w u d ?_ (diag_withEarlierLogs w u d _ s)
  simp only [ackProcess_withEarlierLogs, withEarlierLogs_rxSeq]
  cases dataClass p (ackProcess p ackNum s).rxSeq frm re with
  | accept => exact acceptData_withEarlierLogs w u d payload _
  | replay => exact replayData_withEarlierLogs w u d p payload _
  | reject => exact rejectData_withEarlierLogs w u d _

theorem receiveAck_withEarlierLogs (p : Config.Params) (nrdy : Bit) (ackNum : SeqNum) (s : State) :
    receiveAck p nrdy ackNum (withEarlierLogs w u d s) =
      withEarlierLogs w u d (receiveAck p nrdy ackNum s) := by
  refine ite_withEarlierLogs w u d ?_ (diag_withEarlierLogs w u d _ s)
  rw [ackProcess_withEarlierLogs, nrdyUpdate_withEarlierLogs]

theorem receiveNak_withEarlierLogs (p : Config.Params) (nrdy : Bit) (ackNum : SeqNum) (s : State) :
    receiveNak p nrdy ackNum (withEarlierLogs w u d s) =
      withEarlierLogs w u d (receiveNak p nrdy ackNum s) := by
  refine ite_withEarlierLogs w u d ?_ (diag_withEarlierLogs w u d _ s)
  rw [← nrdyUpdate_withEarlierLogs]
  exact congrArg (nrdyUpdate p nrdy)
    (ite_withEarlierLogs w u d (release_withEarlierLogs w u d _ _ s) (diag_withEarlierLogs w u d _ s))

theorem receiveRstack_withEarlierLogs (code : Byte) (s : State) :
    receiveRstack code (withEarlierLogs w u d s) = withEarlierLogs w u d (receiveRstack code s) := by
  simp only [receiveRstack, report_withEarlierLogs]
  exact ite_withEarlierLogs w u d (handshakeComplete_withEarlierLogs w u d code _)
    (ite_withEarlierLogs w u d rfl (enterFailed_withEarlierLogs w u d _ _ _))

/-- No frame's rule reads the logs. -/
theorem receiveFrame_withEarlierLogs (p : Config.Params) (F : Frame) (s : State) :
    receiveFrame p F (withEarlierLogs w u d s) = withEarlierLogs w u d (receiveFrame p F s) := by
  cases F with
  | data frm re ackNum payload => exact receiveData_withEarlierLogs w u d p frm re ackNum payload s
  | ack res nrdy ackNum => exact receiveAck_withEarlierLogs w u d p nrdy ackNum s
  | nak res nrdy ackNum => exact receiveNak_withEarlierLogs w u d p nrdy ackNum s
  | rst => exact diag_withEarlierLogs w u d _ s
  | rstack version code => exact receiveRstack_withEarlierLogs w u d code s
  | error version code => exact enterFailed_withEarlierLogs w u d _ _ s

/-! #### Events -/

theorem processSegment_withEarlierLogs (p : Config.Params) (segment : Bytes) (s : State) :
    processSegment p segment (withEarlierLogs w u d s) =
      withEarlierLogs w u d (processSegment p segment s) := by
  unfold processSegment
  cases parse segment with
  | error reason => exact diag_withEarlierLogs w u d _ s
  | ok F => exact receiveFrame_withEarlierLogs w u d p F s

theorem onFlag_withEarlierLogs (p : Config.Params) (s : State) :
    onFlag p (withEarlierLogs w u d s) = withEarlierLogs w u d (onFlag p s) :=
  ite_withEarlierLogs w u d rfl (processSegment_withEarlierLogs w u d p s.rxBuf { s with rxBuf := [] })

theorem onOther_withEarlierLogs (p : Config.Params) (b : Byte) (s : State) :
    onOther p b (withEarlierLogs w u d s) = withEarlierLogs w u d (onOther p b s) :=
  ite_withEarlierLogs w u d (diag_withEarlierLogs w u d _ { s with rxBuf := [], rxDiscard := true }) rfl

theorem rxByte_withEarlierLogs (p : Config.Params) (b : Byte) (s : State) :
    rxByte p b (withEarlierLogs w u d s) = withEarlierLogs w u d (rxByte p b s) := by
  refine ite_withEarlierLogs w u d (ite_withEarlierLogs w u d rfl rfl) ?_
  refine ite_withEarlierLogs w u d (onFlag_withEarlierLogs w u d p s) ?_
  refine ite_withEarlierLogs w u d (diag_withEarlierLogs w u d _ { s with rxBuf := [] }) ?_
  refine ite_withEarlierLogs w u d
    (diag_withEarlierLogs w u d _ { s with rxBuf := [], rxDiscard := true }) ?_
  refine ite_withEarlierLogs w u d (diag_withEarlierLogs w u d _ s) ?_
  exact ite_withEarlierLogs w u d (diag_withEarlierLogs w u d _ s) (onOther_withEarlierLogs w u d p b s)

theorem acceptSend_withEarlierLogs (P : Bytes) (s : State) :
    acceptSend P (withEarlierLogs w u d s) = withEarlierLogs w u d (acceptSend P s) := by
  have hslot : setSlot s.txSeq { slotAt s s.txSeq with payload := P, attempt := 0 }
      { withEarlierLogs w u d s with txSeq := s.txSeq + 1 } =
      withEarlierLogs w u d (setSlot s.txSeq { slotAt s s.txSeq with payload := P, attempt := 0 }
        { s with txSeq := s.txSeq + 1 }) := rfl
  simp only [acceptSend, withEarlierLogs_txSeq, slotAt_withEarlierLogs, hslot, report_withEarlierLogs,
    transmitOrHold_withEarlierLogs]

theorem sendRequest_withEarlierLogs (p : Config.Params) (P : Bytes) (s : State) :
    sendRequest p P (withEarlierLogs w u d s) = withEarlierLogs w u d (sendRequest p P s) := by
  unfold sendRequest
  rw [sendRejection_withEarlierLogs]
  cases sendRejection p P s with
  | some reason => exact report_withEarlierLogs w u d _ s
  | none => exact ite_withEarlierLogs w u d rfl (acceptSend_withEarlierLogs w u d P s)

theorem cancelRequest_withEarlierLogs (f : SeqNum) (s : State) :
    cancelRequest f (withEarlierLogs w u d s) = withEarlierLogs w u d (cancelRequest f s) :=
  ite_withEarlierLogs w u d (release_withEarlierLogs w u d f _ s) (diag_withEarlierLogs w u d _ s)

theorem resetRequest_withEarlierLogs (s : State) :
    resetRequest (withEarlierLogs w u d s) = withEarlierLogs w u d (resetRequest s) := by
  rw [resetRequest_eq, resetRequest_eq, busyOldestFirst_withEarlierLogs]
  simp [withEarlierLogs]

theorem connectionLost_withEarlierLogs (s : State) :
    connectionLost (withEarlierLogs w u d s) = withEarlierLogs w u d (connectionLost s) := by
  unfold connectionLost
  rw [← enterFailed_withEarlierLogs]
  exact congrArg (enterFailed _ _)
    (ite_withEarlierLogs w u d (failHandshake_withEarlierLogs w u d s) rfl)

theorem tickResetDeadline_withEarlierLogs (s : State) :
    tickResetDeadline (withEarlierLogs w u d s) = withEarlierLogs w u d (tickResetDeadline s) := by
  refine ite_withEarlierLogs w u d ?_ rfl
  rw [failHandshake_withEarlierLogs, enterFailed_withEarlierLogs]

theorem tickNrdyExpiry_withEarlierLogs (s : State) :
    tickNrdyExpiry (withEarlierLogs w u d s) = withEarlierLogs w u d (tickNrdyExpiry s) :=
  ite_withEarlierLogs w u d (resume_withEarlierLogs w u d (clearPause s)) rfl

theorem tickEvent_withEarlierLogs (s : State) :
    tickEvent (withEarlierLogs w u d s) = withEarlierLogs w u d (tickEvent s) := by
  have htimers : tickTimers (tickElapsed (withEarlierLogs w u d s)) =
      withEarlierLogs w u d (tickTimers (tickElapsed s)) := rfl
  simp only [tickEvent, htimers, tickResetDeadline_withEarlierLogs, tickNrdyExpiry_withEarlierLogs,
    tickTimeouts, busyOldestFirst_withEarlierLogs, runTimeouts_withEarlierLogs]

/-- No event's rule reads the logs. -/
theorem runEvent_withEarlierLogs (e : InputEvent) (s : State) :
    runEvent e (withEarlierLogs w u d s) = withEarlierLogs w u d (runEvent e s) := by
  cases e with
  | rxByte b => exact rxByte_withEarlierLogs w u d _ b s
  | send P => exact sendRequest_withEarlierLogs w u d _ P s
  | cancel f => exact cancelRequest_withEarlierLogs w u d f s
  | resetReq => exact resetRequest_withEarlierLogs w u d s
  | tick => exact tickEvent_withEarlierLogs w u d s
  | connLost => exact connectionLost_withEarlierLogs w u d s

/-! #### Instructions and steps -/

theorem exec_withEarlierLogs (i : Instr) (s : State) :
    exec i (withEarlierLogs w u d s) = mapNext (withEarlierLogs w u d) (exec i s) := by
  obtain ⟨F, rfl⟩ | ⟨b, rfl⟩ | ⟨e, rfl⟩ := instr_cases i
  · rw [exec_toInstr, exec_toInstr]
    exact congrArg Host.Outcome.next (ite_withEarlierLogs w u d
      (receiveFrame_withEarlierLogs w u d _ F s) (diag_withEarlierLogs w u d _ s))
  · exact congrArg Host.Outcome.next (rxByte_withEarlierLogs w u d Config.block b s)
  · rw [exec_decodeEvent, exec_decodeEvent, runEvent_withEarlierLogs, mapNext]

/-- What is enabled does not depend on the logs. -/
theorem enabled_withEarlierLogs (p : Config.Params) (s : State) (e : InputEvent) :
    enabled p (withEarlierLogs w u d s) e = enabled p s e := by
  cases e <;> rfl

theorem nextOffer_withEarlierLogs (p : Config.Params) (s : State) (offers : List InputEvent) :
    nextOffer p (withEarlierLogs w u d s) offers = nextOffer p s offers := by
  induction offers with
  | nil => rfl
  | cons e es ih => simp only [nextOffer, enabled_withEarlierLogs, ih]

theorem step_withEarlierLogs (s : State) :
    step (withEarlierLogs w u d s) = mapNext (withEarlierLogs w u d) (step s) := by
  have hoffer : nextOffer Config.block (withEarlierLogs w u d s) (withEarlierLogs w u d s).input =
      nextOffer Config.block s s.input := nextOffer_withEarlierLogs w u d _ s s.input
  cases h : nextOffer Config.block s s.input with
  | none =>
    rw [step_of_nextOffer_eq_none h, step_of_nextOffer_eq_none (hoffer.trans h), mapNext]
  | some offer =>
    rw [step_of_nextOffer_eq_some h, step_of_nextOffer_eq_some (hoffer.trans h)]
    exact exec_withEarlierLogs w u d _ { s with input := offer.2 }

end

/-- Settles O51: every instruction and every step commutes with earlier output put in front of the logs. -/
theorem outputLogsAreAppendedAndUnread : Obligations.OutputLogsAreAppendedAndUnread := by
  unfold Obligations.OutputLogsAreAppendedAndUnread
  exact ⟨fun i s w u d => exec_withEarlierLogs w u d i s, fun s w u d => step_withEarlierLogs w u d s,
    rfl, rfl, rfl⟩

end Sys2Proof.Machine
end

/-! ### Scope: power-on and the order of the slots -/

section
namespace Sys2Proof.Machine

/-- Settles O1: each field of `State.reset` as the table gives it, the slots by `slotAt_reset`. -/
theorem resetIsThePowerOnState : Obligations.ResetIsThePowerOnState := by
  unfold Obligations.ResetIsThePowerOnState
  exact ⟨rfl, rfl, rfl, rfl, rfl, rfl, rfl, rfl, slotAt_reset, rfl, rfl, rfl, rfl, rfl⟩

/-- The age of a slot, with the differences modulo 8 written out (10_state.md R35). -/
theorem age_eq (t f : SeqNum) : age t f = (t.toNat + 8 - 1 + (8 - f.toNat)) % 8 + 1 := by
  unfold age
  bv_omega

/-- The order of the slots is the order of decreasing age. -/
theorem oldestFirst_pairwise_age (t : SeqNum) : (oldestFirst t).Pairwise fun f g => age t g < age t f := by
  revert t; decide

/-- Settles O57: membership and multiplicity from the facts about `oldestFirst`, the bounds from `age_eq`. -/
theorem slotsAreOrderedOldestFirst : Obligations.SlotsAreOrderedOldestFirst := by
  unfold Obligations.SlotsAreOrderedOldestFirst
  refine fun t => ⟨fun f => ?_, oldestFirst_pairwise_age t, by simp [age]⟩
  have hmem := mem_oldestFirst t f
  have hage := age_eq t f
  exact ⟨hmem, List.count_eq_one_of_mem (oldestFirst_nodup t) hmem, by omega, by omega, hage⟩

end Sys2Proof.Machine
end

/-! ### Scope: byte classes, stuffing and the escape sequences -/

section
namespace Sys2Proof

/-! #### Byte classes -/

/-- RESERVED, byte by byte, in the order of the table of 30_encoding.md R97. -/
def reservedBytes : Bytes := [0x7E, 0x7D, 0x11, 0x13, 0x18, 0x1A]

theorem isReserved_iff (b : Byte) : isReserved b = true ↔ b ∈ reservedBytes := by
  simp [isReserved, reservedBytes, or_assoc, Config.flagByte, Config.escapeByte, Config.xonByte, Config.xoffByte,
    Config.substituteByte, Config.cancelByte]

theorem isReserved_escapeByte : isReserved Config.escapeByte = true := rfl

theorem ne_escapeByte_of_not_reserved {b : Byte} (h : isReserved b = false) : b ≠ Config.escapeByte := by
  rintro rfl
  simp [isReserved_escapeByte] at h

theorem isStray_of_not_reserved {b : Byte} (h : isReserved b = false) : isStray b = false := by
  simp [isStray, h]

/-- The byte that stands after ESCAPE is itself no reserved byte (40_codec.md R122). -/
theorem not_reserved_of_escaped {b : Byte} (h : isReserved b = true) : isReserved (b ^^^ escapeXor) = false := by
  have hsix : ∀ r ∈ reservedBytes, isReserved (r ^^^ escapeXor) = false := by decide
  exact hsix b ((isReserved_iff b).1 h)

/-- A byte outside RESERVED is no row of its own at the byte layer (30_encoding.md R81). -/
theorem decodeByte_of_not_reserved {b : Byte} (h : isReserved b = false) : decodeByte b = .rxByte b := by
  simp only [isReserved, Bool.or_eq_false_iff, beq_eq_false_iff_ne] at h
  simp [decodeByte, h]

/-! #### Byte stuffing -/

/-- STUFF goes byte by byte. -/
theorem stuff_cons (b : Byte) (B : Bytes) : stuff (b :: B) = stuffByte b ++ stuff B := rfl

theorem stuffByte_of_reserved {b : Byte} (h : isReserved b = true) :
    stuffByte b = [Config.escapeByte, b ^^^ escapeXor] := if_pos h

theorem stuffByte_of_not_reserved {b : Byte} (h : isReserved b = false) : stuffByte b = [b] := by
  simp [stuffByte, h]

theorem stuffByte_ne_nil (b : Byte) : stuffByte b ≠ [] := by
  unfold stuffByte
  split <;> simp

theorem stuff_cons_ne_nil (b : Byte) (B : Bytes) : stuff (b :: B) ≠ [] := by
  simp [stuff_cons, stuffByte_ne_nil]

theorem isStray_of_mem_stuffByte {b x : Byte} (hx : x ∈ stuffByte b) : isStray x = false := by
  cases hb : isReserved b with
  | true =>
    rw [stuffByte_of_reserved hb] at hx
    obtain rfl | hx := List.mem_cons.1 hx
    · rfl
    · rw [List.mem_singleton.1 hx]
      exact isStray_of_not_reserved (not_reserved_of_escaped hb)
  | false =>
    rw [stuffByte_of_not_reserved hb] at hx
    rw [List.mem_singleton.1 hx]
    exact isStray_of_not_reserved hb

/-- A stuffed segment holds no FLAG, CANCEL, SUBSTITUTE, XON or XOFF (40_codec.md R125). -/
theorem isStray_of_mem_stuff {B : Bytes} {x : Byte} (hx : x ∈ stuff B) : isStray x = false := by
  obtain ⟨b, -, hb⟩ := List.mem_flatMap.1 hx
  exact isStray_of_mem_stuffByte hb

/-! #### Unstuffing -/

@[simp] theorem unstuff_nil : unstuff [] = some [] := rfl

/-- ESCAPE may not end a segment (40_codec.md R123). -/
@[simp] theorem unstuff_escape : unstuff [Config.escapeByte] = none := rfl

/-- A byte other than ESCAPE stands for itself. -/
theorem unstuff_cons_of_ne {b : Byte} (h : b ≠ Config.escapeByte) (rest : Bytes) :
    unstuff (b :: rest) = (unstuff rest).map (b :: ·) := by
  cases rest with
  | nil => simp [unstuff, h]
  | cons v rest => simp [unstuff, h]

/-- An escape sequence stands for one reserved byte, or fails the segment (30_encoding.md R97). -/
theorem unstuff_escape_cons (v : Byte) (rest : Bytes) :
    unstuff (Config.escapeByte :: v :: rest) =
      if isReserved (v ^^^ escapeXor) then (unstuff rest).map ((v ^^^ escapeXor) :: ·) else none := by
  simp [unstuff]

/-- A segment that unstuffs ends no byte inside an escape sequence, so what follows it is unstuffed by itself. -/
theorem unstuff_append {A U : Bytes} (h : unstuff A = some U) (B : Bytes) :
    unstuff (A ++ B) = (unstuff B).map (U ++ ·) := by
  induction A using unstuff.induct generalizing U with
  | case1 => cases h; simp
  | case2 => simp at h
  | case3 b hb =>
    rw [unstuff_cons_of_ne hb] at h
    cases h
    rw [List.singleton_append, unstuff_cons_of_ne hb]
    rfl
  | case4 v rest hv ih =>
    rw [unstuff_escape_cons, if_pos hv] at h
    obtain ⟨R, hR, rfl⟩ := Option.map_eq_some_iff.1 h
    rw [List.cons_append, List.cons_append, unstuff_escape_cons, if_pos hv, ih hR, Option.map_map]
    rfl
  | case5 v rest hv => simp [unstuff_escape_cons, hv] at h
  | case6 b v rest hb ih =>
    rw [unstuff_cons_of_ne hb] at h
    obtain ⟨R, hR, rfl⟩ := Option.map_eq_some_iff.1 h
    rw [List.cons_append, unstuff_cons_of_ne hb, ih hR, Option.map_map]
    rfl

/-- The stuffed form of one byte stands for that byte (40_codec.md R122, R123). -/
theorem unstuff_stuffByte (b : Byte) : unstuff (stuffByte b) = some [b] := by
  cases hb : isReserved b with
  | true => simp [stuffByte_of_reserved hb, unstuff_escape_cons, hb]
  | false => simp [stuffByte_of_not_reserved hb, unstuff_cons_of_ne (ne_escapeByte_of_not_reserved hb)]

/-- UNSTUFF undoes STUFF (40_codec.md R124). -/
@[simp] theorem unstuff_stuff (B : Bytes) : unstuff (stuff B) = some B := by
  induction B with
  | nil => rfl
  | cons b B ih => rw [stuff_cons, unstuff_append (unstuff_stuffByte b), ih]; rfl

/-! #### Escape sequences -/

/-- The table of 30_encoding.md R97: a reserved byte, and the byte it stands as after ESCAPE. -/
def escapeTable : List (Byte × Byte) :=
  [(0x7E, 0x5E), (0x7D, 0x5D), (0x11, 0x31), (0x13, 0x33), (0x18, 0x38), (0x1A, 0x3A)]

/-- The rule that the table lists: the byte after ESCAPE is `b ^ 0x20` for b in RESERVED. -/
theorem escapeTable_eq : escapeTable = reservedBytes.map fun b => (b, b ^^^ escapeXor) := rfl

/-- A pair of the table is a reserved byte and the byte whose XOR with 0x20 it is. -/
theorem mem_escapeTable_iff (b v : Byte) :
    (b, v) ∈ escapeTable ↔ isReserved b = true ∧ v ^^^ escapeXor = b := by
  rw [escapeTable_eq, isReserved_iff]
  constructor
  · intro h
    obtain ⟨r, hr, hrbv⟩ := List.mem_map.1 h
    cases hrbv
    exact ⟨hr, by simp⟩
  · rintro ⟨hb, rfl⟩
    exact List.mem_map.2 ⟨v ^^^ escapeXor, hb, by simp⟩

/-- A byte is valid after ESCAPE exactly when its XOR with 0x20 is reserved. -/
theorem mem_escapeTable_snd_iff (v : Byte) :
    v ∈ escapeTable.map Prod.snd ↔ isReserved (v ^^^ escapeXor) = true := by
  simp [mem_escapeTable_iff]

/-- A valid escape sequence stands for the reserved byte that the table pairs with it. -/
theorem unstuff_escapeSequence {b v : Byte} (h : (b, v) ∈ escapeTable) (rest : Bytes) :
    unstuff (Config.escapeByte :: v :: rest) = (unstuff rest).map (b :: ·) := by
  obtain ⟨hb, rfl⟩ := (mem_escapeTable_iff b v).1 h
  rw [unstuff_escape_cons, if_pos hb]

/-- A byte that the table does not list fails the segment after ESCAPE. -/
theorem unstuff_badEscape {v : Byte} (h : v ∉ escapeTable.map Prod.snd) (rest : Bytes) :
    unstuff (Config.escapeByte :: v :: rest) = none := by
  rw [unstuff_escape_cons, if_neg (mt (mem_escapeTable_snd_iff v).2 h)]

/-- ESCAPE and one byte unstuff to a byte exactly when the table pairs the two. -/
theorem unstuff_pair_eq_some_iff (v b : Byte) :
    unstuff [Config.escapeByte, v] = some [b] ↔ (b, v) ∈ escapeTable := by
  constructor
  · intro h
    by_cases hv : v ∈ escapeTable.map Prod.snd
    · obtain ⟨⟨r, _⟩, hr, rfl⟩ := List.mem_map.1 hv
      rw [unstuff_escapeSequence hr] at h
      cases h
      exact hr
    · rw [unstuff_badEscape hv] at h
      cases h
  · exact fun h => unstuff_escapeSequence h []

/-- Settles O10: `unstuff_append` takes what stands in front away, and the table decides what ESCAPE and the byte
after it come to. -/
theorem escapeSequencesAreTheSix : Obligations.EscapeSequencesAreTheSix := by
  unfold Obligations.EscapeSequencesAreTheSix
  refine ⟨isReserved_iff, unstuff_pair_eq_some_iff, ?_, ?_, ?_⟩
  · intro A U rest b v hA hbv
    calc unstuff (A ++ Config.escapeByte :: v :: rest)
      _ = ((unstuff rest).map (b :: ·)).map (U ++ ·) := by rw [unstuff_append hA, unstuff_escapeSequence hbv]
      _ = (unstuff rest).map fun R => U ++ b :: R := Option.map_map ..
  · intro A U rest v hA hv
    calc unstuff (A ++ Config.escapeByte :: v :: rest)
      _ = none := by rw [unstuff_append hA, unstuff_badEscape hv, Option.map_none]
  · intro A U hA
    calc unstuff (A ++ [Config.escapeByte])
      _ = none := by rw [unstuff_append hA, unstuff_escape, Option.map_none]

end Sys2Proof
end

/-! ### Scope: the kinds of a control byte -/

section
namespace Sys2Proof

/-- The last control byte of a row: its mask fixes the leading bits, so the row is an interval. -/
def KindRow.last (r : KindRow) : Byte := r.value ||| ~~~r.mask

/-- Each row of the table is the interval from its value to its last byte (30_encoding.md R83). -/
theorem hits_iff_of_mem_kindTable : ∀ r ∈ kindTable, ∀ c, r.hits c = true ↔ r.value ≤ c ∧ c ≤ r.last := by
  decide +kernel

/-- The intervals follow one another. -/
theorem kindTable_pairwise_last_lt : kindTable.Pairwise fun r q => r.last < q.value := by decide

/-- When no two elements of a list pass a test, the search finds the one that does. -/
theorem find?_eq_some_of_disjoint {α : Type} {p : α → Bool} {l : List α} {a : α}
    (hl : l.Pairwise fun x y => ¬(p x = true ∧ p y = true)) (ha : a ∈ l) (hp : p a = true) :
    l.find? p = some a := by
  induction l with
  | nil => simp at ha
  | cons x xs ih =>
    obtain ⟨hx, hxs⟩ := List.pairwise_cons.1 hl
    obtain rfl | ha := List.mem_cons.1 ha
    · exact List.find?_cons_of_pos hp
    · rw [List.find?_cons_of_neg fun hpx => hx a ha ⟨hpx, hp⟩]
      exact ih hxs ha

/-- No control byte matches two rows of the table. -/
theorem kindTable_disjoint (c : Byte) :
    kindTable.Pairwise fun r q => ¬(r.hits c = true ∧ q.hits c = true) := by
  refine kindTable_pairwise_last_lt.imp_of_mem fun {r q} hr hq hlt ⟨hrc, hqc⟩ => ?_
  have hle : c ≤ r.last := ((hits_iff_of_mem_kindTable r hr c).1 hrc).2
  have hge : q.value ≤ c := ((hits_iff_of_mem_kindTable q hq c).1 hqc).1
  exact absurd hlt (BitVec.not_lt.2 (BitVec.le_trans hge hle))

/-- The order of the tests never changes the result: any row that matches a control byte gives its kind
(30_encoding.md R82, R83). -/
theorem kindOf_of_hits {r : KindRow} {c : Byte} (hr : r ∈ kindTable) (hc : r.hits c = true) :
    kindOf c = some r.kind := by
  rw [kindOf, find?_eq_some_of_disjoint (kindTable_disjoint c) hr hc, Option.map_some]

/-- A control byte that no row matches is of no kind (30_encoding.md R95). -/
theorem kindOf_eq_none {c : Byte} (h : ∀ r ∈ kindTable, ¬r.hits c = true) : kindOf c = none := by
  rw [kindOf, List.find?_eq_none.2 h, Option.map_none]

/-- The kind of a control byte by the boundaries of the rows (30_encoding.md R83). -/
theorem kindOf_eq (c : Byte) : kindOf c =
    if c < 0x80 then some .data else if c < 0xA0 then some .ack else if c < 0xC0 then some .nak
    else if c = 0xC0 then some .rst else if c = 0xC1 then some .rstack else if c = 0xC2 then some .error
    else none := by
  have hrow : ∀ r ∈ kindTable, r.value ≤ c ∧ c ≤ r.last → kindOf c = some r.kind := fun r hr hc =>
    kindOf_of_hits hr ((hits_iff_of_mem_kindTable r hr c).2 hc)
  have hnone : (∀ r ∈ kindTable, ¬(r.value ≤ c ∧ c ≤ r.last)) → kindOf c = none := fun h =>
    kindOf_eq_none fun r hr => mt (hits_iff_of_mem_kindTable r hr c).1 (h r hr)
  simp only [kindTable, List.forall_mem_cons, List.not_mem_nil, false_imp_iff, implies_true, and_true,
    KindRow.last, BitVec.ofNat_eq_ofNat, BitVec.reduceNot, BitVec.reduceOr] at hrow hnone
  obtain ⟨hdata, hack, hnak, hrst, hrstack, herror⟩ := hrow
  split
  · exact hdata (by bv_omega)
  split
  · exact hack (by bv_omega)
  split
  · exact hnak (by bv_omega)
  split
  · exact hrst (by bv_omega)
  split
  · exact hrstack (by bv_omega)
  split
  · exact herror (by bv_omega)
  · exact hnone (by bv_omega)

/-- Settles O11: the rows are disjoint intervals, and `kindOf_eq` reads their boundaries off in order. -/
theorem controlByteSpaceDivides : Obligations.ControlByteSpaceDivides := by
  unfold Obligations.ControlByteSpaceDivides
  exact ⟨kindTable_disjoint, kindOf_eq⟩

end Sys2Proof
end

/-! ### Scope: what the codec writes, it reads back -/

section
namespace Sys2Proof

/-! #### Control bytes -/

/-- The three fields of a DATA control byte come back out of it (30_encoding.md R84). -/
@[simp] theorem fields_ctlData (frm : SeqNum) (re : Bit) (ackNum : SeqNum) :
    frmField (ctlData frm re ackNum) = frm ∧ reField (ctlData frm re ackNum) = re ∧
      ackField (ctlData frm re ackNum) = ackNum := by
  revert frm re ackNum; decide

/-- The three fields of an ACK control byte come back out of it (R85). -/
@[simp] theorem fields_ctlAck (ackNum : SeqNum) (nrdy res : Bit) :
    resField (ctlAck ackNum nrdy res) = res ∧ nrdyField (ctlAck ackNum nrdy res) = nrdy ∧
      ackField (ctlAck ackNum nrdy res) = ackNum := by
  revert ackNum nrdy res; decide

/-- The three fields of a NAK control byte come back out of it (R86). -/
@[simp] theorem fields_ctlNak (ackNum : SeqNum) (nrdy res : Bit) :
    resField (ctlNak ackNum nrdy res) = res ∧ nrdyField (ctlNak ackNum nrdy res) = nrdy ∧
      ackField (ctlNak ackNum nrdy res) = ackNum := by
  revert ackNum nrdy res; decide

@[simp] theorem kindOf_ctlData (frm : SeqNum) (re : Bit) (ackNum : SeqNum) :
    kindOf (ctlData frm re ackNum) = some .data := by
  revert frm re ackNum; decide

@[simp] theorem kindOf_ctlAck (ackNum : SeqNum) (nrdy res : Bit) :
    kindOf (ctlAck ackNum nrdy res) = some .ack := by
  revert ackNum nrdy res; decide

@[simp] theorem kindOf_ctlNak (ackNum : SeqNum) (nrdy res : Bit) :
    kindOf (ctlNak ackNum nrdy res) = some .nak := by
  revert ackNum nrdy res; decide

@[simp] theorem kindOf_ctlRst : kindOf ctlRst = some .rst := by decide
@[simp] theorem kindOf_ctlRstack : kindOf ctlRstack = some .rstack := by decide
@[simp] theorem kindOf_ctlError : kindOf ctlError = some .error := by decide

/-! #### Scrambling -/

/-- SCRAMBLE is its own inverse (40_codec.md R115). -/
@[simp] theorem scramble_scramble (P : Bytes) : scramble (scramble P) = P := by
  apply List.ext_getElem <;> simp [scramble]

/-! #### Parsing -/

/-- The content of every frame is a control byte and a body that the decoder reads back
(40_codec.md R127, R130). -/
theorem decodeFrame_content (F : Frame) :
    ∃ c body, F.content = c :: body ∧ decodeFrame c body = .ok F := by
  cases F with
  | data frm re ackNum payload => exact ⟨_, _, rfl, by simp [decodeFrame]⟩
  | ack res nrdy ackNum => exact ⟨_, _, rfl, by simp [decodeFrame]⟩
  | nak res nrdy ackNum => exact ⟨_, _, rfl, by simp [decodeFrame]⟩
  | rst => exact ⟨_, _, rfl, by simp [decodeFrame]⟩
  | rstack version code => exact ⟨_, _, rfl, by simp [decodeFrame]⟩
  | error version code => exact ⟨_, _, rfl, by simp [decodeFrame]⟩

theorem length_crcBytes (c : BitVec 16) : (crcBytes c).length = 2 := rfl

theorem length_withCrc (content : Bytes) : (withCrc content).length = content.length + 2 := by
  simp [withCrc, length_crcBytes]

/-- The CRC check accepts what the encoder appends the CRC to (40_codec.md R118, R119). -/
theorem crcOk_withCrc (content : Bytes) : crcOk (withCrc content) = true := by
  have hlen : (withCrc content).length - 2 = content.length := by simp [length_withCrc]
  rw [crcOk, hlen]
  simp [withCrc]

/-- The checks of PARSE on a control byte and a body with their CRC come down to the kind, the body's length
and the version (40_codec.md R130). -/
theorem parseUnstuffed_withCrc (c : Byte) (body : Bytes) :
    parseUnstuffed (withCrc (c :: body)) = (decodeFrame c body).bind checkVersion := by
  have hcrc := crcOk_withCrc (c :: body)
  have hcons : withCrc (c :: body) = c :: (body ++ crcBytes (crc16 (c :: body))) := rfl
  rw [hcons] at hcrc ⊢
  simp [parseUnstuffed, hcrc, length_crcBytes]

/-- PARSE undoes the stuffing and the CRC of a control byte and a body. -/
theorem parse_stuff_withCrc (c : Byte) (body : Bytes) :
    parse (stuff (withCrc (c :: body))) = (decodeFrame c body).bind checkVersion := by
  rw [parse, unstuff_stuff]
  exact parseUnstuffed_withCrc c body

/-- PARSE of a serialised frame checks nothing but its version (40_codec.md R131). -/
theorem parse_stuff_frameBytes (F : Frame) : parse (stuff (frameBytes F)) = checkVersion F := by
  obtain ⟨c, body, hcontent, hF⟩ := decodeFrame_content F
  rw [frameBytes, hcontent, parse_stuff_withCrc, hF]
  rfl

theorem checkVersion_of_wf {F : Frame} (h : F.wf = true) : checkVersion F = .ok F := if_pos h

/-! #### One item of the wire -/

/-- A string of at least two bytes that FLAG ends and that holds no stray byte is the frame its segment parses
to (30_encoding.md R98). -/
theorem decode_of_parse {segment : Bytes} {F : Frame} (hne : segment ≠ [])
    (hstray : ∀ b ∈ segment, isStray b = false) (hF : parse segment = .ok F) :
    decode (segment ++ [Config.flagByte]) = .ok F.toInstr := by
  cases segment with
  | nil => exact absurd rfl hne
  | cons b B =>
    have hclean : (b :: B).any isStray = false := by simpa using hstray
    have hlast : (b :: B ++ [Config.flagByte]).getLast? = some Config.flagByte := List.getLast?_concat
    have hsegment : (b :: B ++ [Config.flagByte]).dropLast = b :: B := List.dropLast_concat
    rw [decode, if_pos hlast, hsegment, hclean, hF]
    all_goals simp

/-- The wire form of a well-formed frame decodes to its instruction (40_codec.md R128, R131). -/
theorem decode_wire {F : Frame} (hwf : F.wf = true) : decode (wire F) = .ok F.toInstr := by
  obtain ⟨c, body, hcontent, -⟩ := decodeFrame_content F
  have hne : stuff (frameBytes F) ≠ [] := by
    rw [frameBytes, hcontent]
    exact stuff_cons_ne_nil c _
  have hparse : parse (stuff (frameBytes F)) = .ok F :=
    (parse_stuff_frameBytes F).trans (checkVersion_of_wf hwf)
  exact decode_of_parse hne (fun _ => isStray_of_mem_stuff) hparse

/-- A byte by itself is read by the byte layer (30_encoding.md R81). -/
theorem decode_singleton (b : Byte) : decode [b] = .ok (decodeByte b) := rfl

/-- Settles O14, by the layers of the wire: a frame through `decode_wire`, a reserved byte as its own row, any
other byte as RX_BYTE. -/
theorem decodeInvertsEncode : Obligations.DecodeInvertsEncode := by
  unfold Obligations.DecodeInvertsEncode
  intro i bytes hwf hcanonical hencode
  have of_frame : ∀ F : Frame, i = F.toInstr → decode (wire F) = .ok i := by
    rintro F rfl
    exact decode_wire hwf
  cases i with
  | data frm re ackNum payload => cases hencode; exact of_frame (.data frm re ackNum payload) rfl
  | ack res nrdy ackNum => cases hencode; exact of_frame (.ack res nrdy ackNum) rfl
  | nak res nrdy ackNum => cases hencode; exact of_frame (.nak res nrdy ackNum) rfl
  | rst => cases hencode; exact of_frame .rst rfl
  | rstack version code => cases hencode; exact of_frame (.rstack version code) rfl
  | error version code => cases hencode; exact of_frame (.error version code) rfl
  | flag | escape | xon | xoff | substitute | cancelByte => cases hencode; rfl
  | rxByte b =>
    cases hencode
    rw [decode_singleton, decodeByte_of_not_reserved (by simpa [Instr.canonical] using hcanonical)]
  | send | cancel | resetReq | tick | connLost => cases hencode

/-- Bytes that the encoder writes for a well-formed frame decode to it. -/
theorem decode_of_wire_eq {F : Frame} {bytes : Bytes} (hwf : F.wf = true) (h : wire F = bytes) :
    decode bytes = .ok F.toInstr := h ▸ decode_wire hwf

/-- Settles O15: each string is the wire form of its frame, and the last is a byte by itself. -/
theorem writtenOutFramesDecode : Obligations.WrittenOutFramesDecode := by
  unfold Obligations.WrittenOutFramesDecode
  exact ⟨decode_of_wire_eq (F := .rst) rfl (by decide +kernel),
    decode_of_wire_eq (F := .rstack 2 0x0B) rfl (by decide +kernel),
    decode_of_wire_eq (F := .error 2 0x06) rfl (by decide +kernel),
    decode_of_wire_eq (F := .ack 0 0 1) rfl (by decide +kernel),
    decode_of_wire_eq (F := .nak 0 0 0) rfl (by decide +kernel),
    decode_of_wire_eq (F := .data 1 1 0 [0x02]) rfl (by decide +kernel),
    decode_singleton 0x18⟩

end Sys2Proof
end

/-! ### Scope: the byte layer and the words of the opcode table, as a step runs them -/

section
namespace Sys2Proof.Machine

/-- Settles O22: RX_BYTE runs `rxByte`, and so does the byte's own row. -/
theorem rxByteIsItsByteInstruction : Obligations.RxByteIsItsByteInstruction := by
  unfold Obligations.RxByteIsItsByteInstruction
  intro b s
  calc exec (.rxByte b) s
    _ = .next (rxByte Config.block b s) := rfl
    _ = exec (decodeByte b) s := (exec_decodeByte b s).symm

/-! #### Words of the opcode table -/

/-- The first byte of a word is its low eight bits. -/
theorem wordBytes_head {n w : Nat} {c : Byte} {body : Bytes} (h : wordBytes n w = c :: body) :
    c = BitVec.ofNat 8 w := by
  cases n with
  | zero => cases h
  | succ n => cases h; rfl

/-- What a word of the opcode table can be: a reserved byte, or a control byte with its body (log entry 4). -/
theorem decodeTableWord_cases {nbits w : Nat} {i : Instr} (h : decodeTableWord nbits w = some i) :
    ∃ c body, wordBytes (nbits / 8) w = c :: body ∧
      (isReserved c = true ∧ i = decodeByte c ∨
        isReserved c = false ∧ ∃ F, decodeFrame c (padBody c body) = .ok F ∧ i = F.toInstr) := by
  unfold decodeTableWord at h
  split at h
  · cases h
  next c body hword =>
    refine ⟨c, body, hword, ?_⟩
    split at h
    next hc => cases h; exact .inl ⟨hc, rfl⟩
    next hc =>
      split at h
      · cases h
      next F hF => cases h; exact .inr ⟨by simpa using hc, F, hF, rfl⟩

theorem withFetchWord_of_reserved {nbits w : Nat} {c : Byte} {body : Bytes} (s : State)
    (hword : wordBytes (nbits / 8) w = c :: body) (hc : isReserved c = true) :
    s.withFetchWord nbits w = { s with input := .rxByte c :: s.input } := by
  simp [State.withFetchWord, loadWord, hword, hc]

theorem withFetchWord_of_control {nbits w : Nat} {c : Byte} {body : Bytes} (s : State)
    (hword : wordBytes (nbits / 8) w = c :: body) (hc : isReserved c = false) :
    s.withFetchWord nbits w =
      { s with
        rxBuf := stuff (withCrc (c :: padBody c body))
        rxDiscard := false
        input := .rxByte Config.flagByte :: s.input } := by
  simp [State.withFetchWord, loadWord, hword, hc]

/-- A received byte at the head of the offers is run by the next step. -/
theorem step_of_rxByte {s : State} {b : Byte} {rest : List InputEvent} (h : s.input = .rxByte b :: rest) :
    step s = exec (decodeByte b) { s with input := rest } :=
  step_of_nextOffer_eq_some (by rw [h]; rfl)

/-- FLAG outside discard hands a segment that is not empty to PROCESS_SEGMENT (41_rx_pipeline.md R143). -/
theorem exec_flag_of_segment {s : State} (hdiscard : s.rxDiscard = false) (hbuf : s.rxBuf ≠ []) :
    exec .flag s = .next (processSegment Config.block s.rxBuf { s with rxBuf := [] }) := by
  simp [exec, execFlag, onFlag, hdiscard, hbuf]

/-- A segment that is a frame but for its version is processed as that frame's instruction, which drops an
RSTACK of another version as PARSE does (41_rx_pipeline.md R150, 30_encoding.md R93). -/
theorem processSegment_of_checkVersion {segment : Bytes} {F : Frame} (h : parse segment = checkVersion F)
    (s : State) : .next (processSegment Config.block segment s) = exec F.toInstr s := by
  rw [processSegment, h, exec_toInstr]
  cases hwf : F.wf <;> simp [checkVersion, hwf]

/-- FLAG outside discard runs the frame that the segment in RX_BUF is, its version checked last. -/
theorem exec_flag_of_checkVersion {s : State} {F : Frame} (hdiscard : s.rxDiscard = false)
    (hbuf : s.rxBuf ≠ []) (h : parse s.rxBuf = checkVersion F) :
    exec .flag s = exec F.toInstr { s with rxBuf := [] } := by
  rw [exec_flag_of_segment hdiscard hbuf, processSegment_of_checkVersion h]

/-- Settles O4: a reserved byte is offered as such, and the FLAG offered for a control byte closes a segment that
PARSE brings back to the laid-out content. -/
theorem stepRunsLaidOutWord : Obligations.StepRunsLaidOutWord := by
  unfold Obligations.StepRunsLaidOutWord
  intro s nbits w i hi
  obtain ⟨c, body, hword, ⟨hc, rfl⟩ | ⟨hc, F, hF, rfl⟩⟩ := decodeTableWord_cases hi
  · rw [← wordBytes_head hword, if_pos hc, withFetchWord_of_reserved s hword hc]
    exact step_of_rxByte rfl
  · have hparse : parse (stuff (withCrc (c :: padBody c body))) = checkVersion F := by
      rw [parse_stuff_withCrc, hF]
      rfl
    rw [← wordBytes_head hword, if_neg (by simp [hc]), withFetchWord_of_control s hword hc]
    calc step _
      _ = exec .flag { s with rxBuf := stuff (withCrc (c :: padBody c body)), rxDiscard := false } :=
        step_of_rxByte (b := Config.flagByte) (rest := s.input) rfl
      _ = exec F.toInstr { s with rxBuf := [], rxDiscard := false } :=
        exec_flag_of_checkVersion rfl (stuff_cons_ne_nil c _) hparse

end Sys2Proof.Machine
end

/-! ### Scope: the pseudo-random sequence and the scrambler -/

section
namespace Sys2Proof

/-- The sequence is the orbit of the seed under LFSR_STEP (40_codec.md R111). -/
theorem prbs_eq_iterate (i : Nat) : prbs i = lfsrStep^[i] 0x42 := by
  induction i with
  | zero => rfl
  | succ i ih => rw [Function.iterate_succ_apply', ← ih, prbs]

theorem prbs_255 : prbs 255 = 0x42 := by decide +kernel

/-- Of the divisors of 255, only 255 itself brings the seed back. -/
theorem eq_255_of_dvd_of_prbs_eq_seed : ∀ m ∈ Nat.divisors 255, prbs m = 0x42 → m = 255 := by
  decide +kernel

/-- The seed comes back after 255 steps and after no proper divisor of 255. -/
theorem minimalPeriod_lfsrStep_seed : Function.minimalPeriod lfsrStep 0x42 = 255 := by
  have hperiodic : Function.IsPeriodicPt lfsrStep 255 0x42 := (prbs_eq_iterate 255).symm.trans prbs_255
  have hdivides : Function.minimalPeriod lfsrStep 0x42 ∈ Nat.divisors 255 :=
    Nat.mem_divisors.2 ⟨hperiodic.minimalPeriod_dvd, by decide⟩
  refine eq_255_of_dvd_of_prbs_eq_seed _ hdivides ?_
  rw [prbs_eq_iterate, Function.iterate_minimalPeriod]

/-- The sequence repeats after 255 bytes (R113). -/
theorem prbs_mod_255 (i : Nat) : prbs (i % 255) = prbs i := by
  rw [prbs_eq_iterate, prbs_eq_iterate, ← minimalPeriod_lfsrStep_seed, Function.iterate_mod_minimalPeriod_eq]

/-- The state 0 is never reached: LFSR_STEP would keep it, and the seed would not come back (R110). -/
theorem prbs_ne_zero {i : Nat} (hi : i ≤ 255) : prbs i ≠ 0 := by
  intro hzero
  have hfixed : Function.IsFixedPt lfsrStep 0 := rfl
  have hlast : prbs 255 = 0 := calc
    prbs 255 = lfsrStep^[255 - i] (prbs i) := by
      rw [prbs_eq_iterate, prbs_eq_iterate, ← Function.iterate_add_apply, Nat.sub_add_cancel hi]
    _ = 0 := by rw [hzero, hfixed.iterate]
  rw [prbs_255] at hlast
  exact absurd hlast (by decide)

/-- Two bytes of one period are distinct (R113). -/
theorem prbs_injOn : Set.InjOn prbs (Set.Iio 255) := by
  rw [funext prbs_eq_iterate, ← minimalPeriod_lfsrStep_seed]
  exact Function.iterate_injOn_Iio_minimalPeriod

/-- The mask of payload byte k, at any k. -/
theorem getElem?_scramble (P : Bytes) (k : Nat) : (scramble P)[k]? = P[k]?.map (· ^^^ prbs k) := by
  rw [scramble, List.getElem?_mapIdx]

/-- Settles O6: the period of the seed's orbit is 255, which gives the repetition and the distinct bytes. -/
theorem prbsHasPeriod255 : Obligations.PrbsHasPeriod255 := by
  unfold Obligations.PrbsHasPeriod255
  refine ⟨fun i => ?_, fun i hi => prbs_ne_zero hi.le, fun i j hi hj hij => prbs_injOn hi hj hij,
    prbs_255, rfl, fun P k => ?_⟩
  · rw [← prbs_mod_255, Nat.add_mod_right, prbs_mod_255]
  · rw [getElem?_scramble, prbs_mod_255]

/-- Loaded with PRBS[n], the register masks with the sequence from index n on (R112). -/
theorem lfsrMask_prbs (P : Bytes) (n : Nat) :
    lfsrMask (prbs n) P = P.mapIdx fun k b => b ^^^ prbs (n + k) := by
  induction P generalizing n with
  | nil => rfl
  | cons b P ih =>
    rw [lfsrMask, ← prbs, ih (n + 1), List.mapIdx_cons]
    simp only [Nat.add_zero, Nat.add_assoc, Nat.add_comm 1]

/-- Settles O7: masking twice cancels, and the register at index k holds PRBS[k]. -/
theorem scrambleIsInvolutionByLfsr : Obligations.ScrambleIsInvolutionByLfsr := by
  unfold Obligations.ScrambleIsInvolutionByLfsr
  refine ⟨scramble_scramble, fun P => ?_⟩
  calc scramble P
    _ = P.mapIdx fun k b => b ^^^ prbs (0 + k) := by simp only [scramble, Nat.zero_add]
    _ = lfsrMask 0x42 P := (lfsrMask_prbs P 0).symm

end Sys2Proof
end

/-! ### Scope: the CRC and its residue -/

section
namespace Sys2Proof

/-- The polynomial is odd, so the lowest bit of a bit step is the bit that it shifted out. -/
theorem getLsbD_crcBit_zero (c : BitVec 16) : (crcBit c).getLsbD 0 = c.getLsbD 15 := by
  unfold crcBit
  split
  next htop => simp [htop]
  next htop => simpa using htop

/-- A bit step that shifts a 0 out is a shift. -/
theorem crcBit_of_clear {c : BitVec 16} (h : c.getLsbD 15 = false) : crcBit c = c <<< 1 :=
  if_neg (ne_true_of_eq_false h)

/-- A bit step loses nothing: its lowest bit is the bit shifted out, and the others give the rest. -/
theorem crcBit_injective : Function.Injective crcBit := by
  intro a b h
  have htop : a.getLsbD 15 = b.getLsbD 15 := by rw [← getLsbD_crcBit_zero, h, getLsbD_crcBit_zero]
  have hshift : a <<< 1 = b <<< 1 := by
    unfold crcBit at h
    rw [htop] at h
    split at h
    · exact (BitVec.xor_left_inj _).1 h
    · exact h
  ext i hi
  by_cases hlast : i = 15
  · subst hlast
    exact htop
  · simpa [show i + 1 < 16 by omega] using congrArg (·.getLsbD (i + 1)) hshift

/-- Repeating a step that loses nothing loses nothing. -/
theorem repeat_injective {α : Type} {f : α → α} (hf : Function.Injective f) (k : Nat) :
    Function.Injective (Nat.repeat f k) := by
  induction k with
  | zero => exact fun _ _ h => h
  | succ k ih => exact hf.comp ih

/-- Bit steps only shift while no 1 reaches the top. -/
theorem repeat_crcBit_of_lt (k : Nat) {c : BitVec 16} (h : c.toNat * 2 ^ k < 2 ^ 16) :
    Nat.repeat crcBit k c = c <<< k := by
  induction k with
  | zero => simp [Nat.repeat]
  | succ k ih =>
    have hlt : c.toNat * 2 ^ k < 2 ^ 15 := by rw [Nat.pow_succ, ← Nat.mul_assoc] at h; omega
    have hnat : (c <<< k).toNat = c.toNat * 2 ^ k := by
      rw [BitVec.toNat_shiftLeft, Nat.shiftLeft_eq, Nat.mod_eq_of_lt (by omega)]
    have hclear : (c <<< k).getLsbD 15 = false := by
      rw [← BitVec.testBit_toNat, hnat]
      exact Nat.testBit_lt_two_pow hlt
    rw [Nat.repeat, ih (by omega), crcBit_of_clear hclear, BitVec.shiftLeft_add]

/-- The register is clear after a byte exactly when the byte is the register's own high byte and its low byte is
clear. -/
theorem crcByte_eq_zero_iff (c : BitVec 16) (b : Byte) : crcByte c b = 0 ↔ c = b.setWidth 16 <<< 8 := by
  have hzero : Nat.repeat crcBit 8 0 = 0 := rfl
  calc Nat.repeat crcBit 8 (c ^^^ b.setWidth 16 <<< 8) = 0
    _ ↔ Nat.repeat crcBit 8 (c ^^^ b.setWidth 16 <<< 8) = Nat.repeat crcBit 8 0 := by rw [hzero]
    _ ↔ c ^^^ b.setWidth 16 <<< 8 = 0 := (repeat_injective crcBit_injective 8).eq_iff
    _ ↔ c = b.setWidth 16 <<< 8 := BitVec.xor_eq_zero_iff

/-- After byte h the register holds l as its high byte and 0 below exactly when it held h, l before. -/
theorem crcByte_eq_shift_iff (c : BitVec 16) (h l : Byte) :
    crcByte c h = l.setWidth 16 <<< 8 ↔ c = l.setWidth 16 ^^^ h.setWidth 16 <<< 8 := by
  have hshift : Nat.repeat crcBit 8 (l.setWidth 16) = l.setWidth 16 <<< 8 :=
    repeat_crcBit_of_lt 8 (by rw [BitVec.toNat_setWidth]; omega)
  calc Nat.repeat crcBit 8 (c ^^^ h.setWidth 16 <<< 8) = l.setWidth 16 <<< 8
    _ ↔ c ^^^ h.setWidth 16 <<< 8 = l.setWidth 16 := by
      rw [← hshift, (repeat_injective crcBit_injective 8).eq_iff]
    _ ↔ c = l.setWidth 16 ^^^ h.setWidth 16 <<< 8 := by
      rw [← BitVec.xor_left_inj (h.setWidth 16 <<< 8), BitVec.xor_assoc, BitVec.xor_self, BitVec.xor_zero]

/-- A register is its two bytes, the high one shifted up. -/
theorem crcBytes_eq_iff (c : BitVec 16) (h l : Byte) :
    crcBytes c = [h, l] ↔ c = l.setWidth 16 ^^^ h.setWidth 16 <<< 8 := by
  constructor
  · intro hc
    obtain ⟨rfl, rfl⟩ : c.extractLsb' 8 8 = h ∧ c.extractLsb' 0 8 = l := by simpa [crcBytes] using hc
    ext i hi
    by_cases hlow : i < 8
    · simp [hlow, BitVec.getLsbD_eq_getElem hi]
    · simp [hlow, BitVec.getLsbD_eq_getElem hi, show i - 8 < 8 by omega, show 8 + (i - 8) = i by omega]
  · rintro rfl
    have hhigh : (l.setWidth 16 ^^^ h.setWidth 16 <<< 8).extractLsb' 8 8 = h := by
      ext i hi
      simp [BitVec.getLsbD_eq_getElem hi, show 8 + i < 16 by omega]
    have hlow : (l.setWidth 16 ^^^ h.setWidth 16 <<< 8).extractLsb' 0 8 = l := by
      ext i hi
      simp [hi, show i < 16 by omega]
    rw [crcBytes, hhigh, hlow]

/-- Two more bytes clear the CRC register exactly when they are the CRC's own (40_codec.md R120). -/
theorem crc16_append_eq_zero_iff (B : Bytes) (h l : Byte) :
    crc16 (B ++ [h, l]) = 0 ↔ crcBytes (crc16 B) = [h, l] := by
  have hfold : crc16 (B ++ [h, l]) = crcByte (crcByte (crc16 B) h) l := List.foldl_append
  rw [hfold, crcByte_eq_zero_iff, crcByte_eq_shift_iff, crcBytes_eq_iff]

/-- Settles O8: the last two bytes clear the register exactly when they are the CRC of what stands before them. -/
theorem crcCheckIsZeroResidue : Obligations.CrcCheckIsZeroResidue := by
  unfold Obligations.CrcCheckIsZeroResidue
  intro U hlen
  have htwo : (U.drop (U.length - 2)).length = 2 := by rw [List.length_drop]; omega
  obtain ⟨h, l, hlast⟩ := List.length_eq_two.1 htwo
  have hU : U.take (U.length - 2) ++ [h, l] = U := hlast ▸ List.take_append_drop ..
  calc crcOk U = true
    _ ↔ crcBytes (crc16 (U.take (U.length - 2))) = [h, l] := by rw [crcOk, hlast, beq_iff_eq]
    _ ↔ crc16 U = 0 := by rw [← crc16_append_eq_zero_iff, hU]

end Sys2Proof
end

/-! ### Scope: stuffing, whole strings and back -/

section
namespace Sys2Proof

/-- STUFF goes byte by byte, so it takes two strings one after the other (40_codec.md R122). -/
theorem stuff_append (A B : Bytes) : stuff (A ++ B) = stuff A ++ stuff B := List.flatMap_append

theorem stuff_singleton (b : Byte) : stuff [b] = stuffByte b := List.flatMap_singleton ..

/-- Settles O9: `unstuff_stuff`, with the form of one byte and of two strings. -/
theorem unstuffInvertsStuff : Obligations.UnstuffInvertsStuff := by
  unfold Obligations.UnstuffInvertsStuff
  exact ⟨unstuff_stuff, stuff_singleton, stuff_append⟩

/-- Of the reserved bytes only ESCAPE stands in a segment of the receive buffer. -/
theorem not_reserved_of_not_stray {b : Byte} (hstray : isStray b = false) (hb : b ≠ Config.escapeByte) :
    isReserved b = false := by
  simpa [isStray, hb] using hstray

/-- STUFF undoes UNSTUFF on a segment that holds no stray byte: each byte of the result has one stuffed form
(40_codec.md R122, R123). -/
theorem stuff_of_unstuff {segment U : Bytes} (hclean : ∀ b ∈ segment, isStray b = false)
    (h : unstuff segment = some U) : segment = stuff U := by
  induction segment using unstuff.induct generalizing U with
  | case1 => cases h; rfl
  | case2 => simp at h
  | case3 b hb =>
    have hnot : isReserved b = false := not_reserved_of_not_stray (hclean b (by simp)) hb
    rw [unstuff_cons_of_ne hb] at h
    cases h
    rw [stuff_singleton, stuffByte_of_not_reserved hnot]
  | case4 v rest hv ih =>
    rw [unstuff_escape_cons, if_pos hv] at h
    obtain ⟨R, hR, rfl⟩ := Option.map_eq_some_iff.1 h
    rw [stuff_cons, stuffByte_of_reserved hv, ← ih (fun b hb => hclean b (by simp [hb])) hR]
    simp
  | case5 v rest hv => simp [unstuff_escape_cons, hv] at h
  | case6 b v rest hb ih =>
    have hnot : isReserved b = false := not_reserved_of_not_stray (hclean b (by simp)) hb
    rw [unstuff_cons_of_ne hb] at h
    obtain ⟨R, hR, rfl⟩ := Option.map_eq_some_iff.1 h
    rw [stuff_cons, stuffByte_of_not_reserved hnot, ← ih (fun x hx => hclean x (List.mem_cons_of_mem b hx)) hR]
    rfl

end Sys2Proof
end

/-! ### Scope: the two directions of the codec -/

section
namespace Sys2Proof

/-- Settles O12: PARSE of a serialised frame checks its version alone, and a well-formed frame passes. -/
theorem parseInvertsSerialise : Obligations.ParseInvertsSerialise := by
  unfold Obligations.ParseInvertsSerialise
  exact fun F hwf => ⟨(parse_stuff_frameBytes F).trans (checkVersion_of_wf hwf), rfl⟩

/-! #### A control byte is what its fields make

The masks and the fields of 30_encoding.md R82 to R89 leave no bit of a control byte of a known kind unread. -/

theorem ctlData_fields : ∀ c, kindOf c = some .data → ctlData (frmField c) (reField c) (ackField c) = c := by
  decide +kernel

theorem ctlAck_fields : ∀ c, kindOf c = some .ack → ctlAck (ackField c) (nrdyField c) (resField c) = c := by
  decide +kernel

theorem ctlNak_fields : ∀ c, kindOf c = some .nak → ctlNak (ackField c) (nrdyField c) (resField c) = c := by
  decide +kernel

theorem ctlRst_of_kindOf : ∀ c, kindOf c = some .rst → ctlRst = c := by decide +kernel
theorem ctlRstack_of_kindOf : ∀ c, kindOf c = some .rstack → ctlRstack = c := by decide +kernel
theorem ctlError_of_kindOf : ∀ c, kindOf c = some .error → ctlError = c := by decide +kernel

/-! #### From an accepted segment back to its frame -/

/-- The decoder reads all of a control byte and a body: they are the content of the frame it makes of them
(40_codec.md R127, R130). -/
theorem content_of_decodeFrame {c : Byte} {body : Bytes} {F : Frame} (h : decodeFrame c body = .ok F) :
    F.content = c :: body := by
  unfold decodeFrame at h
  split at h
  case h_1 => cases h
  case h_2 hkind =>
    cases h
    rw [Frame.content, ctlData_fields c hkind, scramble_scramble]
  case h_3 hkind =>
    split at h
    next hbody => cases h; rw [Frame.content, ctlAck_fields c hkind, hbody]
    next => cases h
  case h_4 hkind =>
    split at h
    next hbody => cases h; rw [Frame.content, ctlNak_fields c hkind, hbody]
    next => cases h
  case h_5 hkind =>
    split at h
    next hbody => cases h; rw [Frame.content, ctlRst_of_kindOf c hkind, hbody]
    next => cases h
  case h_6 hkind =>
    split at h
    next => cases h; rw [Frame.content, ctlRstack_of_kindOf c hkind]
    next => cases h
  case h_7 hkind =>
    split at h
    next => cases h; rw [Frame.content, ctlError_of_kindOf c hkind]
    next => cases h

/-- Only a well-formed frame passes the last check of PARSE, and it passes unchanged (R130). -/
theorem checkVersion_eq_ok_iff (F G : Frame) : checkVersion F = .ok G ↔ F = G ∧ F.wf = true := by
  unfold checkVersion
  split <;> simp_all

/-- What the CRC check accepts is its first bytes with their CRC (40_codec.md R119). -/
theorem eq_withCrc_of_crcOk {U : Bytes} (h : crcOk U = true) : U = withCrc (U.take (U.length - 2)) := by
  have hlast : crcBytes (crc16 (U.take (U.length - 2))) = U.drop (U.length - 2) := beq_iff_eq.1 h
  rw [withCrc, hlast, List.take_append_drop]

/-- An unstuffed segment of at least 3 bytes whose CRC checks is a control byte and a body with their CRC. -/
theorem exists_content_of_crcOk {U : Bytes} (hlen : 3 ≤ U.length) (hcrc : crcOk U = true) :
    ∃ c body, U = withCrc (c :: body) := by
  obtain ⟨c, body, hcontent⟩ : ∃ c body, U.take (U.length - 2) = c :: body := by
    apply List.exists_cons_of_ne_nil
    rw [← List.length_pos_iff, List.length_take]
    omega
  exact ⟨c, body, hcontent ▸ eq_withCrc_of_crcOk hcrc⟩

/-- An unstuffed segment that passes every check is the byte string of a well-formed frame (R127, R130). -/
theorem eq_frameBytes_of_parseUnstuffed {U : Bytes} {F : Frame} (h : parseUnstuffed U = .ok F) :
    U = frameBytes F ∧ F.wf = true := by
  have hlen : 3 ≤ U.length := by
    by_contra hshort
    simp [parseUnstuffed, Nat.lt_of_not_le hshort] at h
  have hcrc : crcOk U = true := by
    by_contra hbad
    simp [parseUnstuffed, Nat.not_lt.2 hlen, hbad] at h
  obtain ⟨c, body, rfl⟩ := exists_content_of_crcOk hlen hcrc
  rw [parseUnstuffed_withCrc] at h
  cases hframe : decodeFrame c body with
  | error reason =>
    rw [hframe] at h
    cases h
  | ok G =>
    rw [hframe] at h
    obtain ⟨rfl, hwf⟩ := (checkVersion_eq_ok_iff G F).1 h
    exact ⟨by rw [frameBytes, content_of_decodeFrame hframe], hwf⟩

/-- Settles O13: an accepted segment is the stuffed form of what it unstuffs to, and that is the byte string of the
frame. -/
theorem parsedSegmentIsTheSerialisedFrame : Obligations.ParsedSegmentIsTheSerialisedFrame := by
  unfold Obligations.ParsedSegmentIsTheSerialisedFrame
  intro segment F hclean hparse
  unfold parse at hparse
  cases hunstuff : unstuff segment with
  | none =>
    rw [hunstuff] at hparse
    cases hparse
  | some U =>
    rw [hunstuff] at hparse
    obtain ⟨hU, hwf⟩ := eq_frameBytes_of_parseUnstuffed hparse
    exact ⟨hU ▸ stuff_of_unstuff hclean hunstuff, hwf⟩

end Sys2Proof
end

/-! ### Scope: a frame received byte by byte -/

section
namespace Sys2Proof.Machine

/-- Outside discard only the five stray bytes have a branch of their own (41_rx_pipeline.md R147, R149). -/
theorem rxByte_of_not_stray {b : Byte} {s : State} (p : Config.Params) (hb : isStray b = false)
    (hdiscard : s.rxDiscard = false) : rxByte p b s = onOther p b s := by
  have hne : ∀ x, isStray x = true → b ≠ x := by
    rintro x hx rfl
    simp [hx] at hb
  rw [rxByte, if_neg (by simp [hdiscard]), if_neg (hne Config.flagByte rfl), if_neg (hne Config.cancelByte rfl),
    if_neg (hne Config.substituteByte rfl), if_neg (hne Config.xonByte rfl), if_neg (hne Config.xoffByte rfl)]

/-- Such a byte is appended while there is room (R147, R148). -/
theorem onOther_of_room {p : Config.Params} {s : State} (b : Byte) (hroom : p.rxBufMax ≠ some s.rxBuf.length) :
    onOther p b s = { s with rxBuf := s.rxBuf ++ [b] } :=
  if_neg (mt (rxFull_iff p s.rxBuf).1 hroom)

/-- A step that is offered such a byte does nothing but append it. -/
theorem step_appends {s : State} {b : Byte} {rest : List InputEvent} (hinput : s.input = .rxByte b :: rest)
    (hb : isStray b = false) (hdiscard : s.rxDiscard = false)
    (hroom : Config.block.rxBufMax ≠ some s.rxBuf.length) :
    step s = .next { s with rxBuf := s.rxBuf ++ [b], input := rest } := by
  calc step s
    _ = .next (rxByte Config.block b { s with input := rest }) := by rw [step_of_rxByte hinput, exec_decodeByte]
    _ = .next (onOther Config.block b { s with input := rest }) :=
      congrArg Host.Outcome.next (rxByte_of_not_stray _ hb hdiscard)
    _ = .next { s with rxBuf := s.rxBuf ++ [b], input := rest } :=
      congrArg Host.Outcome.next (onOther_of_room b hroom)

/-- A run over the bytes of a segment that fits collects them in RX_BUF and leaves the offers after them
(40_codec.md R125, 41_rx_pipeline.md R147, R148). -/
theorem runSteps_collects (segment : Bytes) (k : Nat) (s : State) (rest : List InputEvent)
    (hclean : ∀ b ∈ segment, isStray b = false) (hdiscard : s.rxDiscard = false)
    (hfits : ∀ most, Config.block.rxBufMax = some most → s.rxBuf.length + segment.length ≤ most) :
    runSteps (segment.length + k) { s with input := segment.map .rxByte ++ rest } =
      runSteps k { s with rxBuf := s.rxBuf ++ segment, input := rest } := by
  induction segment generalizing s with
  | nil => simp
  | cons b segment ih =>
    have hroom : Config.block.rxBufMax ≠ some s.rxBuf.length := fun hmost => by
      have hle := hfits _ hmost
      rw [List.length_cons] at hle
      omega
    have hstep : step { s with input := (b :: segment).map .rxByte ++ rest } =
        .next { s with rxBuf := s.rxBuf ++ [b], input := segment.map .rxByte ++ rest } :=
      step_appends rfl (hclean b (by simp)) hdiscard hroom
    have hrest := ih { s with rxBuf := s.rxBuf ++ [b] } (fun x hx => hclean x (by simp [hx])) hdiscard
      fun most hmost => by
        have hle := hfits most hmost
        simp only [List.length_append, List.length_cons, List.length_nil] at hle ⊢
        omega
    calc runSteps ((b :: segment).length + k) { s with input := (b :: segment).map .rxByte ++ rest }
      _ = runSteps (segment.length + k) { s with rxBuf := s.rxBuf ++ [b], input := segment.map .rxByte ++ rest } := by
        rw [List.length_cons, Nat.add_right_comm, runSteps_succ_of_next _ hstep]
      _ = runSteps k { s with rxBuf := s.rxBuf ++ b :: segment, input := rest } := by
        rw [hrest, List.append_assoc, List.singleton_append]

/-- The serialised form of a frame is never empty. -/
theorem stuff_frameBytes_ne_nil (F : Frame) : stuff (frameBytes F) ≠ [] := by
  obtain ⟨c, body, hcontent, -⟩ := decodeFrame_content F
  rw [frameBytes, hcontent]
  exact stuff_cons_ne_nil c _

/-- Settles O23: the stuffed bytes collect in RX_BUF, and FLAG runs the frame that they parse back to. -/
theorem receivedWireFormRunsItsFrame : Obligations.ReceivedWireFormRunsItsFrame := by
  unfold Obligations.ReceivedWireFormRunsItsFrame
  intro s F rest hwf hdiscard hempty hfits
  have hlength : (wire F).length = (stuff (frameBytes F)).length + 1 := List.length_append
  have hoffers : (wire F).map InputEvent.rxByte ++ rest =
      (stuff (frameBytes F)).map .rxByte ++ .rxByte Config.flagByte :: rest := by simp [wire]
  calc runSteps (wire F).length { s with input := (wire F).map .rxByte ++ rest }
    _ = runSteps 1 { s with rxBuf := stuff (frameBytes F), input := .rxByte Config.flagByte :: rest } := by
      rw [hlength, hoffers, runSteps_collects _ 1 s _ (fun _ => isStray_of_mem_stuff) hdiscard (by simpa [hempty]),
        hempty, List.nil_append]
    _ = exec .flag { s with rxBuf := stuff (frameBytes F), input := rest } :=
      (runSteps_one _).trans (step_of_rxByte (b := Config.flagByte) rfl)
    _ = exec F.toInstr { s with rxBuf := [], input := rest } :=
      exec_flag_of_checkVersion hdiscard (stuff_frameBytes_ne_nil F) (parse_stuff_frameBytes F)
    _ = exec F.toInstr { s with input := rest } := by rw [← hempty]

end Sys2Proof.Machine
end

/-! ### Scope: the receive pipeline, rule by rule -/

section
namespace Sys2Proof.Machine

/-! #### FLAG outside discard -/

/-- What PARSE accepts has passed its last check, the version (40_codec.md R130). -/
theorem wf_of_parse {segment : Bytes} {F : Frame} (h : parse segment = .ok F) : F.wf = true := by
  unfold parse at h
  split at h
  next => cases h
  next U hU =>
    obtain ⟨-, hwf⟩ := eq_frameBytes_of_parseUnstuffed h
    exact hwf

/-- No frame is empty: PARSE refuses the empty segment (30_encoding.md R99). -/
theorem ne_nil_of_parse {segment : Bytes} {F : Frame} (h : parse segment = .ok F) : segment ≠ [] := by
  rintro rfl
  cases h

theorem exec_flag_of_empty {s : State} (hdiscard : s.rxDiscard = false) (hbuf : s.rxBuf = []) :
    exec .flag s = .next s := by
  simp [exec, execFlag, onFlag, hdiscard, hbuf]

theorem processSegment_of_error {segment : Bytes} {reason : DropReason} (p : Config.Params) (s : State)
    (h : parse segment = .error reason) : processSegment p segment s = diag (.dropped reason) s := by
  rw [processSegment, h]

/-- FLAG outside discard runs the frame that RX_BUF parses to, which is never empty and has its version
checked (41_rx_pipeline.md R143, R150). -/
theorem exec_flag_of_parse {s : State} {F : Frame} (hdiscard : s.rxDiscard = false)
    (hparse : parse s.rxBuf = .ok F) : exec .flag s = exec F.toInstr { s with rxBuf := [] } :=
  exec_flag_of_checkVersion hdiscard (ne_nil_of_parse hparse)
    (hparse.trans (checkVersion_of_wf (wf_of_parse hparse)).symm)

/-- Settles O3: the step takes the FLAG, and FLAG runs the frame that RX_BUF parses to. -/
theorem stepRunsReceivedFrame : Obligations.StepRunsReceivedFrame := by
  unfold Obligations.StepRunsReceivedFrame
  intro s rest F hinput hdiscard hparse
  calc step s
    _ = exec .flag { s with input := rest } := step_of_rxByte hinput
    _ = exec F.toInstr { s with rxBuf := [], input := rest } := exec_flag_of_parse hdiscard hparse

/-- Settles O17: an empty buffer, a segment that PARSE drops, and one that it accepts. -/
theorem flagClosesTheSegment : Obligations.FlagClosesTheSegment := by
  unfold Obligations.FlagClosesTheSegment
  intro s hdiscard
  refine ⟨exec_flag_of_empty hdiscard, fun reason hbuf herror => ?_, fun F => exec_flag_of_parse hdiscard⟩
  rw [exec_flag_of_segment hdiscard hbuf, processSegment_of_error _ _ herror]
  rfl

/-! #### The other bytes outside discard -/

/-- Settles O18: the row of CANCEL, where RX_DISCARD keeps the value false that it had. -/
theorem cancelByteDropsPartialFrame : Obligations.CancelByteDropsPartialFrame := by
  unfold Obligations.CancelByteDropsPartialFrame
  intro s hdiscard
  simp [exec, execCancelByte, onCancelByte, diag, hdiscard]

/-- Settles O20: the rows of XON and XOFF. -/
theorem xonXoffAreOnlyLogged : Obligations.XonXoffAreOnlyLogged := by
  unfold Obligations.XonXoffAreOnlyLogged
  intro s hdiscard
  constructor
  · simp [exec, execXon, onXon, diag, hdiscard]
  · simp [exec, execXoff, onXoff, diag, hdiscard]

theorem exec_substitute {s : State} (hdiscard : s.rxDiscard = false) :
    exec .substitute s =
      .next { s with rxBuf := [], rxDiscard := true, diagOut := s.diagOut ++ [.substituteByte] } := by
  simp [exec, execSubstitute, onSubstitute, diag, hdiscard]

/-- A step that takes a SUBSTITUTE clears RX_BUF and begins the discard (R145). -/
theorem step_substitute {s : State} {rest : List InputEvent}
    (hinput : s.input = .rxByte Config.substituteByte :: rest) (hdiscard : s.rxDiscard = false) :
    step s = .next { s with
      rxBuf := [], rxDiscard := true, diagOut := s.diagOut ++ [.substituteByte], input := rest } :=
  (step_of_rxByte hinput).trans (exec_substitute (s := { s with input := rest }) hdiscard)

/-- A byte that would be appended is lost when RX_BUF holds RX_BUF_MAX bytes (R148). -/
theorem onOther_of_full {p : Config.Params} {s : State} (b : Byte) (hfull : p.rxBufMax = some s.rxBuf.length) :
    onOther p b s =
      { s with rxBuf := [], rxDiscard := true, diagOut := s.diagOut ++ [.rxOverflow] } :=
  if_pos ((rxFull_iff p s.rxBuf).2 hfull)

/-- Settles O21: a byte that is not stray has no branch but that of R147 and R148, and ESCAPE is such a byte. -/
theorem otherBytesAreBufferedOrOverflow : Obligations.OtherBytesAreBufferedOrOverflow := by
  unfold Obligations.OtherBytesAreBufferedOrOverflow
  intro s hdiscard
  have hother : ∀ b, isStray b = false → exec (.rxByte b) s =
      if Config.block.rxBufMax = some s.rxBuf.length then
        .next { s with rxBuf := [], rxDiscard := true, diagOut := s.diagOut ++ [.rxOverflow] }
      else .next { s with rxBuf := s.rxBuf ++ [b] } := by
    intro b hb
    have hexec : exec (.rxByte b) s = .next (onOther Config.block b s) :=
      congrArg Host.Outcome.next (rxByte_of_not_stray _ hb hdiscard)
    split
    next hfull => rw [hexec, onOther_of_full b hfull]
    next hroom => rw [hexec, onOther_of_room b hroom]
  have hescape : exec (.rxByte Config.escapeByte) s = exec .escape s :=
    rxByteIsItsByteInstruction Config.escapeByte s
  exact ⟨hother, hescape ▸ hother Config.escapeByte rfl⟩

/-! #### While discarding -/

/-- While discarding, a byte other than FLAG does nothing: the discard is tested first
(41_rx_pipeline.md R141, R149). -/
theorem rxByte_of_discard {b : Byte} {s : State} (p : Config.Params) (hdiscard : s.rxDiscard = true)
    (hb : b ≠ Config.flagByte) : rxByte p b s = s := by
  rw [rxByte, if_pos hdiscard, if_neg hb]

/-- While discarding, FLAG does nothing but end the discard (R141). -/
theorem rxByte_flag_of_discard {s : State} (p : Config.Params) (hdiscard : s.rxDiscard = true) :
    rxByte p Config.flagByte s = { s with rxDiscard := false } := by
  rw [rxByte, if_pos hdiscard, if_pos rfl]
  rfl

/-- A step that takes a received byte does what RX_BYTE does with it. -/
theorem step_rxByte {s : State} {b : Byte} {rest : List InputEvent} (hinput : s.input = .rxByte b :: rest) :
    step s = .next (rxByte Config.block b { s with input := rest }) := by
  rw [step_of_rxByte hinput, exec_decodeByte]

/-- A run over any bytes up to the first FLAG ends the discard and leaves the offers after it. -/
theorem runSteps_discards (bytes : Bytes) (s : State) (rest : List InputEvent) (hdiscard : s.rxDiscard = true)
    (hbytes : ∀ b ∈ bytes, b ≠ Config.flagByte) :
    runSteps (bytes.length + 1) { s with input := (bytes ++ [Config.flagByte]).map .rxByte ++ rest } =
      .next { s with rxDiscard := false, input := rest } := by
  induction bytes with
  | nil =>
    calc runSteps 1 { s with input := .rxByte Config.flagByte :: rest }
      _ = .next (rxByte Config.block Config.flagByte { s with input := rest }) :=
        (runSteps_one _).trans (step_rxByte rfl)
      _ = .next { s with rxDiscard := false, input := rest } := by
        rw [rxByte_flag_of_discard (s := { s with input := rest }) _ hdiscard]
  | cons b bytes ih =>
    obtain ⟨hb, hbytes⟩ := List.forall_mem_cons.1 hbytes
    have hstep : step { s with input := (b :: bytes ++ [Config.flagByte]).map .rxByte ++ rest } =
        .next { s with input := (bytes ++ [Config.flagByte]).map .rxByte ++ rest } :=
      (step_rxByte rfl).trans (congrArg Host.Outcome.next (rxByte_of_discard _ hdiscard hb))
    rw [List.length_cons, runSteps_succ_of_next _ hstep]
    exact ih hbytes

/-- Settles O16: a byte's own row drops what RX_BYTE drops, and a run drops byte after byte. -/
theorem discardDropsBytesThroughFlag : Obligations.DiscardDropsBytesThroughFlag := by
  unfold Obligations.DiscardDropsBytesThroughFlag
  refine ⟨fun s hdiscard => ?_, fun s bytes rest => runSteps_discards bytes s rest⟩
  have hflag : exec (.rxByte Config.flagByte) s = .next { s with rxDiscard := false } :=
    congrArg Host.Outcome.next (rxByte_flag_of_discard _ hdiscard)
  have hdrop : ∀ b, b ≠ Config.flagByte → exec (.rxByte b) s = .next s := fun b hb =>
    congrArg Host.Outcome.next (rxByte_of_discard _ hdiscard hb)
  have hrow : ∀ b, b ≠ Config.flagByte → exec (decodeByte b) s = .next s := fun b hb =>
    (rxByteIsItsByteInstruction b s).symm.trans (hdrop b hb)
  exact ⟨(rxByteIsItsByteInstruction Config.flagByte s).symm.trans hflag, hrow Config.escapeByte (by decide),
    hrow Config.xonByte (by decide), hrow Config.xoffByte (by decide), hrow Config.substituteByte (by decide),
    hrow Config.cancelByte (by decide), hflag, hdrop⟩

/-- Settles O19: SUBSTITUTE begins the discard, and the run through the next FLAG brings RX_DISCARD back to the
value false that it had. -/
theorem substituteDiscardsThroughFlag : Obligations.SubstituteDiscardsThroughFlag := by
  unfold Obligations.SubstituteDiscardsThroughFlag
  refine ⟨fun s => exec_substitute, fun s bytes rest hdiscard hbytes => ?_⟩
  calc runSteps (bytes.length + 2)
        { s with input := (Config.substituteByte :: bytes ++ [Config.flagByte]).map .rxByte ++ rest }
    _ = runSteps (bytes.length + 1)
          { s with
            rxBuf := [], rxDiscard := true, diagOut := s.diagOut ++ [.substituteByte],
            input := (bytes ++ [Config.flagByte]).map .rxByte ++ rest } :=
      runSteps_succ_of_next (bytes.length + 1) (step_substitute rfl hdiscard)
    _ = .next { s with
          rxBuf := [], rxDiscard := false, diagOut := s.diagOut ++ [.substituteByte], input := rest } :=
      runSteps_discards bytes
        { s with rxBuf := [], rxDiscard := true, diagOut := s.diagOut ++ [.substituteByte] } rest rfl hbytes
    _ = .next { s with rxBuf := [], diagOut := s.diagOut ++ [.substituteByte], input := rest } := by
      rw [← hdiscard]

end Sys2Proof.Machine
end

/-! ### Scope: frames received -/

section
namespace Sys2Proof.Machine

/-! #### The link, up or not -/

theorem linkUp_iff (s : State) : linkUp s = true ↔ s.ncpState = .connected ∧ s.resetPending = false := by
  simp [linkUp]

theorem linkUp_eq_false_iff (s : State) : linkUp s = false ↔ s.ncpState = .failed ∨ s.resetPending = true := by
  cases h : s.ncpState <;> simp [linkUp, h]

/-- Settles O24: each of the three rules tests the link first. -/
theorem gatedFramesIgnoredWhileLinkDown : Obligations.GatedFramesIgnoredWhileLinkDown := by
  unfold Obligations.GatedFramesIgnoredWhileLinkDown
  intro s hs
  have hdown : ¬linkUp s = true := by simp [(linkUp_eq_false_iff s).2 hs]
  exact ⟨fun _ _ _ _ => congrArg Host.Outcome.next (if_neg hdown),
    fun _ _ _ => congrArg Host.Outcome.next (if_neg hdown),
    fun _ _ _ => congrArg Host.Outcome.next (if_neg hdown)⟩

/-! #### DATA -/

/-- The expected number is accepted when sent first, and when re-sent if RETX_NEW_ACCEPT says so
(42_frame_receive.md R163, R169). -/
theorem dataClass_of_expected {p : Config.Params} {rxSeq frm : SeqNum} {re : Bit} (hfrm : frm = rxSeq)
    (hre : re = 0 ∨ re = 1 ∧ p.retxNewAccept = true) : dataClass p rxSeq frm re = .accept := by
  subst hfrm
  obtain rfl | ⟨rfl, hnew⟩ := hre
  · rw [dataClass, if_pos rfl, if_pos rfl]
  · have hprevious : frm ≠ frm - 1 := by bv_omega
    rw [dataClass, if_neg (by decide), if_neg hprevious, if_pos ⟨rfl, hnew⟩]

/-- The number before the expected one, re-sent, is a replay (R163). -/
theorem dataClass_of_previous {p : Config.Params} {rxSeq frm : SeqNum} {re : Bit} (hfrm : frm = rxSeq - 1)
    (hre : re = 1) : dataClass p rxSeq frm re = .replay := by
  rw [dataClass, if_neg (by simp [hre]), if_pos hfrm]

/-- Every other frame is rejected (R163). -/
theorem dataClass_of_other {p : Config.Params} {rxSeq frm : SeqNum} {re : Bit}
    (h : re = 0 ∧ frm ≠ rxSeq ∨
      re = 1 ∧ frm ≠ rxSeq - 1 ∧ ¬(frm = rxSeq ∧ p.retxNewAccept = true)) :
    dataClass p rxSeq frm re = .reject := by
  obtain ⟨rfl, hfrm⟩ | ⟨rfl, hprevious, hnew⟩ := h
  · rw [dataClass, if_pos rfl, if_neg hfrm]
  · rw [dataClass, if_neg (by decide), if_neg hprevious, if_neg hnew]

@[simp] theorem ackProcess_rxSeq (p : Config.Params) (a : SeqNum) (s : State) :
    (ackProcess p a s).rxSeq = s.rxSeq := by
  rw [ackProcess_frame]

@[simp] theorem ackProcess_wireOut (p : Config.Params) (a : SeqNum) (s : State) :
    (ackProcess p a s).wireOut = s.wireOut := by
  rw [ackProcess_frame]

section
variable {p : Config.Params} {frm : SeqNum} {re : Bit} {s : State}

theorem receiveData_of_accept (a : SeqNum) (P : Bytes) (up : linkUp s = true)
    (h : dataClass p s.rxSeq frm re = .accept) :
    receiveData p frm re a P s = acceptData P (ackProcess p a s) := by
  simp [receiveData, up, h]

theorem receiveData_of_replay (a : SeqNum) (P : Bytes) (up : linkUp s = true)
    (h : dataClass p s.rxSeq frm re = .replay) :
    receiveData p frm re a P s = replayData p P (ackProcess p a s) := by
  simp [receiveData, up, h]

theorem receiveData_of_reject (a : SeqNum) (P : Bytes) (up : linkUp s = true)
    (h : dataClass p s.rxSeq frm re = .reject) :
    receiveData p frm re a P s = rejectData (ackProcess p a s) := by
  simp [receiveData, up, h]

end

/-- REPLAY, whole: what REPLAY_DELIVERS decides is UP_OUT alone (42_frame_receive.md R165, R170). -/
theorem replayData_eq (p : Config.Params) (P : Bytes) (s : State) :
    replayData p P s =
      { s with
        wireOut := s.wireOut ++ wire (.ack 0 0 s.rxSeq)
        upOut := s.upOut ++ (if p.replayDelivers then [.deliver P] else []) } := by
  cases h : p.replayDelivers <;> simp [replayData, h, report, emit, ackFrame]

/-- Settles O25: the class of the frame picks the rule, and the acknowledgement before it keeps RX_SEQ and
WIRE_OUT. -/
theorem dataFrameEffect : Obligations.DataFrameEffect := by
  unfold Obligations.DataFrameEffect
  rintro s t frm re a P hncp hpending rfl
  have up : linkUp s = true := (linkUp_iff s).2 ⟨hncp, hpending⟩
  refine ⟨fun ⟨hfrm, hre⟩ => congrArg Host.Outcome.next ?accept,
    fun ⟨hfrm, hre⟩ => congrArg Host.Outcome.next ?replay, fun h => congrArg Host.Outcome.next ?reject⟩
  case accept =>
    rw [receiveData_of_accept a P up (dataClass_of_expected hfrm hre)]
    simp [acceptData, report, emit, ackFrame]
  case replay =>
    rw [receiveData_of_replay a P up (dataClass_of_previous hfrm hre), replayData_eq, ackProcess_rxSeq,
      ackProcess_wireOut]
  case reject =>
    rw [receiveData_of_reject a P up (dataClass_of_other h)]
    simp [rejectData, diag, emit, ackFrame, nakFrame]

/-! #### ACK, NAK and RST -/

theorem exec_ack_of_link_up (res nrdy : Bit) (a : SeqNum) {s : State} (up : linkUp s = true) :
    exec (.ack res nrdy a) s = .next (nrdyUpdate Config.block nrdy (ackProcess Config.block a s)) :=
  congrArg Host.Outcome.next (if_pos up)

/-- Settles O27: the meaning of an ACK does not take its reserved bit. -/
theorem ackFrameEffect : Obligations.AckFrameEffect := by
  unfold Obligations.AckFrameEffect
  intro s res nrdy a hncp hpending
  exact ⟨exec_ack_of_link_up res nrdy a ((linkUp_iff s).2 ⟨hncp, hpending⟩), rfl⟩

theorem exec_nak_of_link_up (res nrdy : Bit) (a : SeqNum) {s : State} (up : linkUp s = true) :
    exec (.nak res nrdy a) s =
      .next (nrdyUpdate Config.block nrdy
        (if busy s a then release a .notAcked s else diag .unexpectedNak s)) :=
  congrArg Host.Outcome.next (if_pos up)

/-- Settles O28: the slot named is busy, and is released, or is FREE. -/
theorem nakFrameEffect : Obligations.NakFrameEffect := by
  unfold Obligations.NakFrameEffect
  intro s res nrdy a hncp hpending
  rw [exec_nak_of_link_up res nrdy a ((linkUp_iff s).2 ⟨hncp, hpending⟩)]
  constructor
  · intro hbusy
    rw [if_pos hbusy]
    rfl
  · intro hfree
    rw [if_neg (by simp [hfree])]
    rfl

/-- Settles O30: the rule of RST is its diagnostic. -/
theorem rstIsOnlyLogged : Obligations.RstIsOnlyLogged := by
  unfold Obligations.RstIsOnlyLogged
  exact fun s => rfl

/-! #### RSTACK and ERROR -/

theorem exec_rstack_of_ashVersion (code : Byte) (s : State) :
    exec (.rstack 2 code) s = .next (receiveRstack code s) :=
  congrArg Host.Outcome.next (if_pos rfl)

theorem receiveRstack_of_pending (code : Byte) {s : State} (hpending : s.resetPending = true) :
    receiveRstack code s = handshakeComplete code (report (.rstackRx code) s) :=
  if_pos hpending

/-- With no reset pending an RSTACK of a software reset is only reported (44_link_control.md R244). -/
theorem receiveRstack_of_software {code : Byte} {s : State} (hpending : s.resetPending = false)
    (hcode : code = Config.resetSoftware) : receiveRstack code s = report (.rstackRx code) s := by
  simp [receiveRstack, hpending, hcode]

/-- With no reset pending an RSTACK of another reset fails the link (R244). -/
theorem receiveRstack_of_unexpected {code : Byte} {s : State} (hpending : s.resetPending = false)
    (hcode : code ≠ Config.resetSoftware) :
    receiveRstack code s = enterFailed (.unexpectedReset code) none (report (.rstackRx code) s) := by
  simp [receiveRstack, hpending, hcode]

/-- ENTER_FAILED from CONNECTED with no culprit: every request ends with TRANSPORT_FAILED
(44_link_control.md R244). -/
theorem enterFailed_none_of_connected (cause : FailCause) {s : State} (hncp : s.ncpState = .connected) :
    enterFailed cause none s =
      { s with
        ncpState := .failed
        remoteNrdy := false
        nrdyTimer := 0
        slots := s.slots.map fun x => { x with state := .free }
        upOut := s.upOut ++ (busyOldestFirst s).map (fun f => .complete f .transportFailed)
          ++ [.failure cause] } := by
  rw [enterFailed_of_connected cause none s hncp]
  rfl

/-- Settles O31: RSTACK_RX is reported, and HANDSHAKE_COMPLETE runs after it. -/
theorem rstackCompletesHandshake : Obligations.RstackCompletesHandshake := by
  unfold Obligations.RstackCompletesHandshake
  intro s code hpending
  rw [exec_rstack_of_ashVersion, receiveRstack_of_pending code hpending, handshakeComplete_eq]
  rfl

/-- Settles O32: a code other than SOFTWARE runs ENTER_FAILED after the report, which does nothing in FAILED. -/
theorem unsolicitedRstackEffect : Obligations.UnsolicitedRstackEffect := by
  unfold Obligations.UnsolicitedRstackEffect
  intro s code
  refine ⟨fun hpending hquiet => ?quiet, fun hpending hcode hncp => ?fatal, fun version hversion => ?dropped⟩
  case quiet =>
    rw [exec_rstack_of_ashVersion]
    refine congrArg Host.Outcome.next ?_
    by_cases hcode : code = Config.resetSoftware
    · exact receiveRstack_of_software hpending hcode
    · have hfailed : (report (.rstackRx code) s).ncpState = .failed := hquiet.resolve_left hcode
      rw [receiveRstack_of_unexpected hpending hcode, enterFailed_of_failed _ _ _ hfailed]
      rfl
  case fatal =>
    have hreported : (report (.rstackRx code) s).ncpState = .connected := hncp
    rw [exec_rstack_of_ashVersion, receiveRstack_of_unexpected hpending hcode,
      enterFailed_none_of_connected _ hreported]
    rfl
  case dropped => exact congrArg Host.Outcome.next (if_neg hversion)

/-- Settles O33: an ERROR is ENTER_FAILED with its code, whatever its version. -/
theorem errorFrameFailsTheLink : Obligations.ErrorFrameFailsTheLink := by
  unfold Obligations.ErrorFrameFailsTheLink
  intro s version code
  exact ⟨fun hncp => congrArg Host.Outcome.next (enterFailed_none_of_connected (.ncpError code) hncp),
    fun hncp => congrArg Host.Outcome.next (enterFailed_of_failed (.ncpError code) none s hncp)⟩

end Sys2Proof.Machine
end

/-! ### Scope: the kinds of effect an instruction can have -/

section
namespace Sys2Proof.Machine

/-- The states `s` and `t` are the same but for RX_BUF, RX_DISCARD and DIAG_OUT. -/
def OnlyPipelineDiffers (s t : State) : Prop :=
  ∃ buf discard log, t = { s with rxBuf := buf, rxDiscard := discard, diagOut := log }

/-- What a received byte can do: change the receive pipeline and log a diagnostic, or close a segment that
is a frame and run it (41_rx_pipeline.md R149). -/
theorem rxByte_cases (p : Config.Params) (b : Byte) (s : State) :
    OnlyPipelineDiffers s (rxByte p b s) ∨ ∃ F, rxByte p b s = receiveFrame p F { s with rxBuf := [] } := by
  unfold rxByte
  split
  · split
    · exact .inl ⟨s.rxBuf, false, s.diagOut, rfl⟩
    · exact .inl ⟨s.rxBuf, s.rxDiscard, s.diagOut, rfl⟩
  split
  · unfold onFlag processSegment
    split
    · exact .inl ⟨s.rxBuf, s.rxDiscard, s.diagOut, rfl⟩
    split
    next reason _ => exact .inl ⟨[], s.rxDiscard, s.diagOut ++ [Diag.dropped reason], rfl⟩
    next F _ => exact .inr ⟨F, rfl⟩
  split
  · exact .inl ⟨[], s.rxDiscard, s.diagOut ++ [Diag.cancelByte], rfl⟩
  split
  · exact .inl ⟨[], true, s.diagOut ++ [Diag.substituteByte], rfl⟩
  split
  · exact .inl ⟨s.rxBuf, s.rxDiscard, s.diagOut ++ [Diag.xon], rfl⟩
  split
  · exact .inl ⟨s.rxBuf, s.rxDiscard, s.diagOut ++ [Diag.xoff], rfl⟩
  unfold onOther
  split
  · exact .inl ⟨[], true, s.diagOut ++ [Diag.rxOverflow], rfl⟩
  · exact .inl ⟨s.rxBuf ++ [b], s.rxDiscard, s.diagOut, rfl⟩

/-- What an instruction can do: change the receive pipeline and log a diagnostic, run a frame's rule, or run
the rule of a host event. -/
theorem exec_cases {i : Instr} {s t : State} (h : exec i s = .next t) :
    OnlyPipelineDiffers s t ∨ (∃ F buf, t = receiveFrame Config.block F { s with rxBuf := buf }) ∨
    ∃ e, (∀ b, e ≠ .rxByte b) ∧ i = decodeEvent e ∧ t = runEvent e s := by
  have of_byte : ∀ b, t = rxByte Config.block b s →
      OnlyPipelineDiffers s t ∨ ∃ F buf, t = receiveFrame Config.block F { s with rxBuf := buf } := by
    rintro b rfl
    exact (rxByte_cases Config.block b s).imp_right fun ⟨F, hF⟩ => ⟨F, [], hF⟩
  rw [← or_assoc]
  obtain ⟨F, rfl⟩ | ⟨b, rfl⟩ | ⟨e, rfl⟩ := instr_cases i
  · rw [exec_toInstr] at h
    cases h
    split
    · exact .inl (.inr ⟨F, s.rxBuf, rfl⟩)
    · exact .inl (.inl ⟨s.rxBuf, s.rxDiscard, s.diagOut ++ [Diag.dropped .badVersion], rfl⟩)
  · exact .inl (of_byte b (Host.Outcome.next.inj h).symm)
  · rw [exec_decodeEvent] at h
    cases h
    by_cases hbyte : ∃ b, e = .rxByte b
    · obtain ⟨b, rfl⟩ := hbyte
      exact .inl (of_byte b rfl)
    · exact .inr ⟨e, fun b hb => hbyte ⟨b, hb⟩, rfl, rfl⟩

/-- ENTER_FAILED leaves the handshake, the sequence numbers, T_RX_ACK, the receive pipeline, WIRE_OUT and
DIAG_OUT alone (44_link_control.md R244). -/
theorem enterFailed_frame (cause : FailCause) (culprit : Option SeqNum) (s : State) :
    enterFailed cause culprit s =
      { s with
        ncpState := (enterFailed cause culprit s).ncpState
        remoteNrdy := (enterFailed cause culprit s).remoteNrdy
        nrdyTimer := (enterFailed cause culprit s).nrdyTimer
        slots := (enterFailed cause culprit s).slots
        upOut := (enterFailed cause culprit s).upOut } := by
  cases h : s.ncpState with
  | failed => rw [enterFailed_of_failed cause culprit s h]
  | connected => rw [enterFailed_of_connected cause culprit s h]

@[simp] theorem enterFailed_rxSeq (cause : FailCause) (culprit : Option SeqNum) (s : State) :
    (enterFailed cause culprit s).rxSeq = s.rxSeq := by
  rw [enterFailed_frame]

@[simp] theorem enterFailed_wireOut (cause : FailCause) (culprit : Option SeqNum) (s : State) :
    (enterFailed cause culprit s).wireOut = s.wireOut := by
  rw [enterFailed_frame]

end Sys2Proof.Machine
end

/-! ### Scope: RX_SEQ -/

section
namespace Sys2Proof.Machine

/-- What an instruction may do to RX_SEQ: keep it, advance it with a DELIVER while the link is up, or clear it
as a pending handshake completes (42_frame_receive.md R177). -/
def RxSeqStep (s t : State) : Prop :=
  t.rxSeq = s.rxSeq ∨
  (t.rxSeq = s.rxSeq + 1 ∧ linkUp s = true ∧ ∃ before P, t.upOut = before ++ [UpEvent.deliver P]) ∨
  (t.rxSeq = 0 ∧ s.resetPending = true ∧ ∃ before code, t.upOut = before ++ [UpEvent.resetDone code])

/-! #### Frames -/

@[simp] theorem resume_rxSeq (s : State) : (resume s).rxSeq = s.rxSeq := by
  rw [resume_eq]

@[simp] theorem nrdyUpdate_rxSeq (p : Config.Params) (bit : Bit) (s : State) :
    (nrdyUpdate p bit s).rxSeq = s.rxSeq := by
  unfold nrdyUpdate
  split
  · split
    · rfl
    · split <;> simp
  · rfl

@[simp] theorem acceptData_rxSeq (P : Bytes) (s : State) : (acceptData P s).rxSeq = s.rxSeq + 1 := rfl
@[simp] theorem acceptData_upOut (P : Bytes) (s : State) : (acceptData P s).upOut = s.upOut ++ [.deliver P] := rfl
@[simp] theorem replayData_rxSeq (p : Config.Params) (P : Bytes) (s : State) :
    (replayData p P s).rxSeq = s.rxSeq := by
  rw [replayData_eq]
@[simp] theorem rejectData_rxSeq (s : State) : (rejectData s).rxSeq = s.rxSeq := rfl

/-- Of the three classes of a DATA frame only ACCEPT advances RX_SEQ (42_frame_receive.md R164 to R166). -/
theorem rxSeqStep_receiveData (p : Config.Params) (frm : SeqNum) (re : Bit) (a : SeqNum) (P : Bytes)
    (s : State) : RxSeqStep s (receiveData p frm re a P s) := by
  by_cases up : linkUp s = true
  · cases h : dataClass p s.rxSeq frm re with
    | accept =>
      rw [receiveData_of_accept a P up h]
      exact .inr (.inl ⟨by simp, up, _, P, acceptData_upOut P _⟩)
    | replay =>
      rw [receiveData_of_replay a P up h]
      exact .inl (by simp)
    | reject =>
      rw [receiveData_of_reject a P up h]
      exact .inl (by simp)
  · exact .inl (by simp [receiveData, up])

theorem receiveAck_rxSeq (p : Config.Params) (nrdy : Bit) (a : SeqNum) (s : State) :
    (receiveAck p nrdy a s).rxSeq = s.rxSeq := by
  unfold receiveAck
  split <;> simp

theorem receiveNak_rxSeq (p : Config.Params) (nrdy : Bit) (a : SeqNum) (s : State) :
    (receiveNak p nrdy a s).rxSeq = s.rxSeq := by
  unfold receiveNak
  split
  · rw [nrdyUpdate_rxSeq]
    split <;> simp
  · simp

/-- An RSTACK clears RX_SEQ only as it completes a handshake (44_link_control.md R242). -/
theorem rxSeqStep_receiveRstack (code : Byte) (s : State) : RxSeqStep s (receiveRstack code s) := by
  cases hpending : s.resetPending with
  | true =>
    rw [receiveRstack_of_pending code hpending, handshakeComplete_eq]
    exact .inr (.inr ⟨rfl, hpending, _, code, rfl⟩)
  | false =>
    by_cases hcode : code = Config.resetSoftware
    · rw [receiveRstack_of_software hpending hcode]
      exact .inl rfl
    · rw [receiveRstack_of_unexpected hpending hcode]
      exact .inl (enterFailed_rxSeq _ _ _)

theorem rxSeqStep_receiveFrame (p : Config.Params) (F : Frame) (s : State) :
    RxSeqStep s (receiveFrame p F s) := by
  cases F with
  | data frm re a P => exact rxSeqStep_receiveData p frm re a P s
  | ack res nrdy a => exact .inl (receiveAck_rxSeq p nrdy a s)
  | nak res nrdy a => exact .inl (receiveNak_rxSeq p nrdy a s)
  | rst => exact .inl rfl
  | rstack version code => exact rxSeqStep_receiveRstack code s
  | error version code => exact .inl (enterFailed_rxSeq _ _ s)

/-! #### Host events -/

@[simp] theorem transmitOrHold_rxSeq (f : SeqNum) (s : State) : (transmitOrHold f s).rxSeq = s.rxSeq := by
  rw [transmitOrHold_frame]

theorem sendRequest_rxSeq (p : Config.Params) (P : Bytes) (s : State) :
    (sendRequest p P s).rxSeq = s.rxSeq := by
  unfold sendRequest
  split
  · simp
  · split
    · rfl
    · simp [acceptSend]

theorem cancelRequest_rxSeq (f : SeqNum) (s : State) : (cancelRequest f s).rxSeq = s.rxSeq := by
  unfold cancelRequest
  split <;> simp

theorem connectionLost_rxSeq (s : State) : (connectionLost s).rxSeq = s.rxSeq := by
  unfold connectionLost
  rw [enterFailed_rxSeq]
  split <;> simp

theorem timeout_rxSeq (f : SeqNum) (s : State) : (timeout f s).rxSeq = s.rxSeq := by
  simp only [timeout]
  split <;> simp

theorem tickEvent_rxSeq (s : State) : (tickEvent s).rxSeq = s.rxSeq := by
  have hdeadline : ∀ u, (tickResetDeadline u).rxSeq = u.rxSeq := fun u => by
    unfold tickResetDeadline
    split <;> simp
  have hexpiry : ∀ u, (tickNrdyExpiry u).rxSeq = u.rxSeq := fun u => by
    unfold tickNrdyExpiry
    split <;> simp
  have htimeouts : ∀ u, (tickTimeouts u).rxSeq = u.rxSeq := fun u =>
    runTimeouts_keeps (P := fun v => v.rxSeq = u.rxSeq) (fun f v _ hv => (timeout_rxSeq f v).trans hv) _ u rfl
  rw [tickEvent, htimeouts, hexpiry, hdeadline]
  rfl

/-- No host event touches RX_SEQ. -/
theorem runEvent_rxSeq {e : InputEvent} (he : ∀ b, e ≠ .rxByte b) (s : State) :
    (runEvent e s).rxSeq = s.rxSeq := by
  cases e with
  | rxByte b => exact absurd rfl (he b)
  | send P => exact sendRequest_rxSeq _ P s
  | cancel f => exact cancelRequest_rxSeq f s
  | resetReq =>
    show (resetRequest s).rxSeq = s.rxSeq
    rw [resetRequest_eq]
  | tick => exact tickEvent_rxSeq s
  | connLost => exact connectionLost_rxSeq s

/-- Settles O52: only a frame's rule can change RX_SEQ, and each does so as `RxSeqStep` says. -/
theorem rxSeqAdvancesByOneOrResets : Obligations.RxSeqAdvancesByOneOrResets := by
  unfold Obligations.RxSeqAdvancesByOneOrResets
  intro i s t h
  obtain ⟨buf, discard, log, rfl⟩ | ⟨F, buf, rfl⟩ | ⟨e, he, -, rfl⟩ := exec_cases h
  · exact .inl rfl
  · exact rxSeqStep_receiveFrame Config.block F { s with rxBuf := buf }
  · exact .inl (runEvent_rxSeq he s)

end Sys2Proof.Machine
end

/-! ### Scope: WIRE_OUT while the link is down -/

section
namespace Sys2Proof.Machine

/-- No frame is answered while the link is down: DATA, ACK and NAK are dropped, and RST, RSTACK and ERROR are
answered in no state (42_frame_receive.md R161, R179). -/
theorem receiveFrame_wireOut_of_link_down (p : Config.Params) (F : Frame) {s : State}
    (hdown : linkUp s = false) : (receiveFrame p F s).wireOut = s.wireOut := by
  cases F with
  | data frm re a P => simp [receiveFrame, receiveData, hdown]
  | ack res nrdy a => simp [receiveFrame, receiveAck, hdown]
  | nak res nrdy a => simp [receiveFrame, receiveNak, hdown]
  | rst => rfl
  | rstack version code =>
    show (receiveRstack code s).wireOut = s.wireOut
    simp only [receiveRstack]
    split
    · rw [handshakeComplete_eq]
      rfl
    · split <;> simp
  | error version code => exact enterFailed_wireOut _ _ s

/-- A SEND is rejected while the link is down (43_tx_engine.md R201). -/
theorem sendRequest_of_link_down (p : Config.Params) (P : Bytes) {s : State} (hdown : linkUp s = false) :
    sendRequest p P s = report (.sendRejected .transportFailed) s := by
  have hrejected : sendRejection p P s = some .transportFailed := if_pos ((linkUp_eq_false_iff s).1 hdown)
  rw [sendRequest, hrejected]

theorem cancelRequest_wireOut (f : SeqNum) (s : State) : (cancelRequest f s).wireOut = s.wireOut := by
  unfold cancelRequest
  split <;> simp

theorem connectionLost_wireOut (s : State) : (connectionLost s).wireOut = s.wireOut := by
  unfold connectionLost
  rw [enterFailed_wireOut]
  split <;> simp

/-- The reset deadline brings no link up: it leaves the state alone or ends in FAILED (44_link_control.md R243). -/
theorem link_down_tickResetDeadline {s : State} (hdown : linkUp s = false) :
    linkUp (tickResetDeadline s) = false := by
  unfold tickResetDeadline
  split
  · exact link_down_of_failed (enterFailed_ncpState _ _ _)
  · exact hdown

@[simp] theorem tickResetDeadline_wireOut (s : State) : (tickResetDeadline s).wireOut = s.wireOut := by
  unfold tickResetDeadline
  split <;> simp

/-- While the link is down a TICK has no pause to end and no request to time out: it is its first three parts. -/
theorem tickEvent_of_link_down {s : State} (hs : LinkSafe [] 5000 1000 s) (hdown : linkUp s = false) :
    tickEvent s = tickResetDeadline (tickTimers (tickElapsed s)) := by
  have hdeadline := hs.tickTimers_tickElapsed.tickResetDeadline
  have hdown' := link_down_tickResetDeadline (s := tickTimers (tickElapsed s)) hdown
  rw [tickEvent]
  generalize tickResetDeadline (tickTimers (tickElapsed s)) = u at hdeadline hdown'
  have hexpiry : tickNrdyExpiry u = u := if_neg (by simp [hdeadline.no_pause_of_link_down hdown'])
  rw [hexpiry]
  exact tickTimeouts_of_none fun f => by simp [timedOut, hdeadline.free_of_link_down hdown' f]

/-- While the link is down no host event but RESET_REQ emits (44_link_control.md R241). -/
theorem runEvent_wireOut_of_link_down {s : State} (hs : LinkSafe [] 5000 1000 s)
    (hdown : linkUp s = false) {e : InputEvent} (hbyte : ∀ b, e ≠ .rxByte b) (hreset : e ≠ .resetReq) :
    (runEvent e s).wireOut = s.wireOut := by
  cases e with
  | rxByte b => exact absurd rfl (hbyte b)
  | send P =>
    show (sendRequest Config.block P s).wireOut = s.wireOut
    rw [sendRequest_of_link_down _ P hdown, report_wireOut]
  | cancel f => exact cancelRequest_wireOut f s
  | resetReq => exact absurd rfl hreset
  | tick =>
    show (tickEvent s).wireOut = s.wireOut
    rw [tickEvent_of_link_down hs hdown, tickResetDeadline_wireOut]
    rfl
  | connLost => exact connectionLost_wireOut s

/-- Settles O54: neither a frame's rule nor a host event but RESET_REQ emits while the link is down. -/
theorem onlyRstLeavesWhileLinkDown : Obligations.OnlyRstLeavesWhileLinkDown := by
  unfold Obligations.OnlyRstLeavesWhileLinkDown
  intro i s t hs hdown hi h
  obtain ⟨hlink, -⟩ := (safe_iff s).1 hs
  obtain ⟨buf, discard, log, rfl⟩ | ⟨F, buf, rfl⟩ | ⟨e, he, rfl, rfl⟩ := exec_cases h
  · rfl
  · exact receiveFrame_wireOut_of_link_down Config.block F (s := { s with rxBuf := buf }) hdown
  · exact runEvent_wireOut_of_link_down hlink hdown he fun hreset => hi (hreset ▸ rfl)

end Sys2Proof.Machine
end

/-! ### Scope: SEND, CANCEL and ACK_PROCESS -/

section
namespace Sys2Proof.Machine

/-! #### SEND -/

theorem sendRejection_eq_none {p : Config.Params} {s : State} {P : Bytes} (hncp : s.ncpState = .connected)
    (hpending : s.resetPending = false) (hlength : ∀ most, p.maxPayload = some most → P.length ≤ most) :
    sendRejection p P s = none := by
  have hup : ¬(s.ncpState = .failed ∨ s.resetPending = true) := by simp [hncp, hpending]
  rw [sendRejection, if_neg hup]
  cases hmost : p.maxPayload with
  | none => rfl
  | some most => exact if_neg (Nat.not_lt.2 (hlength most hmost))

theorem sendRejection_of_link_down {p : Config.Params} {s : State} {P : Bytes}
    (hdown : s.ncpState = .failed ∨ s.resetPending = true) :
    sendRejection p P s = some .transportFailed := if_pos hdown

theorem sendRejection_of_too_long {p : Config.Params} {s : State} {P : Bytes} {most : Nat}
    (hncp : s.ncpState = .connected) (hpending : s.resetPending = false) (hmost : p.maxPayload = some most)
    (hlength : most < P.length) : sendRejection p P s = some .payloadTooLong := by
  simp [sendRejection, hncp, hpending, hmost, hlength]

/-- A rejected SEND is enabled, whatever the window, and is only reported (43_tx_engine.md R201). -/
theorem send_of_rejected {p : Config.Params} {s : State} {P : Bytes} {reason : RejectReason}
    (h : sendRejection p P s = some reason) :
    enabled p s (.send P) = true ∧
      sendRequest p P s = { s with upOut := s.upOut ++ [.sendRejected reason] } := by
  constructor
  · simp [enabled, h]
  · rw [sendRequest, h]
    rfl

/-- Settles O34: each of the two reasons of R201 makes the SEND a rejected one. -/
theorem sendIsRejectedAtOnce : Obligations.SendIsRejectedAtOnce := by
  unfold Obligations.SendIsRejectedAtOnce
  exact ⟨fun _ _ => rfl, fun _ _ _ hdown => send_of_rejected (sendRejection_of_link_down hdown),
    fun _ _ _ _ hncp hpending hmost hlength =>
      send_of_rejected (sendRejection_of_too_long hncp hpending hmost hlength)⟩

/-- The window is full or slot TX_SEQ is busy (10_state.md R36, 43_tx_engine.md R202). -/
theorem sendHeld_iff (s : State) : sendHeld s = true ↔ 5 ≤ busyCount s ∨ busy s s.txSeq = true := by
  simp [sendHeld, permits, Config.txK, Nat.sub_eq_zero_iff_le]

/-- Settles O35: `sendRequest` gives back the state it found. -/
theorem heldSendHasNoEffect : Obligations.HeldSendHasNoEffect := by
  unfold Obligations.HeldSendHasNoEffect
  intro s P hncp hpending hlength hheld
  have hnone := sendRejection_eq_none hncp hpending hlength
  have hheld := (sendHeld_iff s).2 hheld
  constructor
  · simp [enabled, hnone, hheld]
  · refine congrArg Host.Outcome.next ?_
    simp [sendRequest, hnone, hheld]

/-- Settles O36: slot TX_SEQ is written twice, by the SEND and by its transmission or its hold. -/
theorem acceptedSendTakesSlot : Obligations.AcceptedSendTakesSlot := by
  unfold Obligations.AcceptedSendTakesSlot
  intro s P hncp hpending hlength hroom hfree
  have hnone := sendRejection_eq_none hncp hpending hlength
  have hheld : sendHeld s = false := by
    rw [← Bool.not_eq_true, sendHeld_iff]
    simp [hfree, hroom]
  have hexec : exec (.send P) s = .next (acceptSend P s) := by
    refine congrArg Host.Outcome.next ?_
    simp [sendRequest, hnone, hheld]
  rw [hexec]
  refine ⟨by simp [enabled, hnone, hheld], fun hclear => congrArg Host.Outcome.next ?sent,
    fun hpause => congrArg Host.Outcome.next ?held⟩
  case sent =>
    ext1 <;> simp [acceptSend, transmitOrHold, hclear, slotFrame]
  case held =>
    ext1 <;> simp [acceptSend, transmitOrHold, hpause, slotAt]

/-! #### CANCEL -/

/-- Settles O37: CANCEL of a busy slot is RELEASE. -/
theorem cancelEndsTheRequest : Obligations.CancelEndsTheRequest := by
  unfold Obligations.CancelEndsTheRequest
  exact fun s f => ⟨fun hbusy => congrArg Host.Outcome.next (if_pos hbusy),
    fun hfree => congrArg Host.Outcome.next (if_neg (Bool.eq_false_iff.1 hfree))⟩

/-! #### ACK_PROCESS -/

/-- The back-to-back updates of T_RX_ACK read each slot's own elapsed count, which no completion changes. -/
theorem foldl_completeOk_tRxAck :
    ∀ (l : List SeqNum) (s : State),
      (l.foldl (fun t f => completeOk f t) s).tRxAck =
        l.foldl (fun T f => rttUpdate T (slotAt s f).elapsed) s.tRxAck
  | [], _ => rfl
  | f :: l, s => by
    have helapsed : ∀ g, (slotAt (completeOk f s) g).elapsed = (slotAt s g).elapsed := fun g => by
      rw [slotAt_completeOk]
      split
      next h => rw [h]
      next => rfl
    rw [List.foldl_cons, List.foldl_cons, foldl_completeOk_tRxAck l]
    simp only [helapsed, completeOk_tRxAck]

theorem mem_ackedSlots (acked f : SeqNum) (s : State) :
    f ∈ ackedSlots acked s ↔ busy s f = true ∧ age s.txSeq acked ≤ age s.txSeq f := by
  simp [ackedSlots, mem_busyOldestFirst]

/-- Settles O26: under CUMULATIVE the list of completions is fixed, with its ages, before the first of them. -/
theorem ackNamesItsSlots : Obligations.AckNamesItsSlots := by
  unfold Obligations.AckNamesItsSlots
  intro p a s
  refine ⟨fun hfree => if_neg (Bool.eq_false_iff.1 hfree), fun hbusy hscope => ?lastOnly,
    fun hbusy hscope => ?cumulative⟩
  case lastOnly =>
    rw [ackProcess, if_pos hbusy, hscope]
    rfl
  case cumulative =>
    refine ⟨(ackedSlots (a - 1) s).foldl (fun t f => completeOk f t) s, ?_, ?_, fun f => ?_, ?_, ?_⟩
    · rw [ackProcess, if_pos hbusy, hscope]
    · rw [foldl_completeOk_frame]
    · rw [slotAt_foldl_completeOk]
      simp only [mem_ackedSlots]
    · rw [foldl_completeOk_frame]
      rfl
    · exact foldl_completeOk_tRxAck _ s

end Sys2Proof.Machine
end

/-! ### Scope: requests, their completions and T_RX_ACK

Every step is a run of elementary moves (`RequestMove`), so an invariant of the requests, or of T_RX_ACK, is
checked of the four moves alone. -/

section
namespace Sys2Proof.Machine

/-- What one elementary move can do to the requests and to T_RX_ACK: leave UP_OUT alone and every slot as busy
as it was, report an event of no request, release a busy slot, or take a FREE one for a request. -/
inductive RequestMove : State → State → Prop
  | keep {s t : State} (hup : t.upOut = s.upOut) (hbusy : ∀ f, busy t f = busy s f)
      (htime : AckTimeoutInRange s.tRxAck → AckTimeoutInRange t.tRxAck) : RequestMove s t
  | report {s : State} {e : UpEvent} (haccepted : ∀ f, e ≠ .accepted f)
      (hcomplete : ∀ f, isComplete f e = false) : RequestMove s (report e s)
  | release {s : State} {f : SeqNum} (status : Status) (hbusy : busy s f = true) :
      RequestMove s (release f status s)
  | accept {s t : State} {f : SeqNum} (hfree : busy s f = false) (hup : t.upOut = s.upOut ++ [.accepted f])
      (hbusy : ∀ g, busy t g = (decide (f = g) || busy s g)) (htime : t.tRxAck = s.tRxAck) : RequestMove s t

/-- The state `t` is reached from `s` by elementary moves. -/
abbrev RequestMoves : State → State → Prop := Relation.ReflTransGen RequestMove

/-! #### What one move keeps -/

/-- Every elementary move keeps T_RX_ACK in its range (43_tx_engine.md R219). -/
theorem RequestMove.ackTimeoutInRange {s t : State} (h : RequestMove s t) (hs : AckTimeoutInRange s.tRxAck) :
    AckTimeoutInRange t.tRxAck := by
  cases h with
  | keep _ _ htime => exact htime hs
  | report | release => exact hs
  | accept _ _ _ htime => rwa [htime]

/-- Every elementary move keeps the accounts: a release balances a COMPLETE against a busy slot, an acceptance
a busy slot against an ACCEPTED (R220). -/
theorem RequestMove.requestsBalanced {s t : State} (h : RequestMove s t) (hs : RequestsBalanced s) :
    RequestsBalanced t := by
  intro f
  have hf := hs f
  unfold acceptedCount completedCount at hf ⊢
  cases h with
  | keep hup hbusy _ => rw [hup, hbusy, hf]
  | @report e haccepted hcomplete =>
    have hkept : busy (Machine.report e s) f = busy s f := rfl
    rw [report_upOut, List.count_append, List.countP_append, hkept, hf]
    simp [haccepted f, hcomplete f]
  | @release g status hbusy =>
    rw [release_upOut, List.count_append, List.countP_append, busy_release, hf]
    by_cases hg : g = f
    · subst hg
      simp [isComplete, hbusy]
    · simp [isComplete, hg]
  | @accept _ g hfree hup hbusy _ =>
    rw [hup, List.count_append, List.countP_append, hbusy, hf]
    by_cases hg : g = f
    · subst hg
      simp [isComplete, hfree]
    · simp [isComplete, hg]

theorem RequestMoves.ackTimeoutInRange {s t : State} (h : RequestMoves s t) (hs : AckTimeoutInRange s.tRxAck) :
    AckTimeoutInRange t.tRxAck := by
  induction h with
  | refl => exact hs
  | tail _ hmove ih => exact hmove.ackTimeoutInRange ih

theorem RequestMoves.requestsBalanced {s t : State} (h : RequestMoves s t) (hs : RequestsBalanced s) :
    RequestsBalanced t := by
  induction h with
  | refl => exact hs
  | tail _ hmove ih => exact hmove.requestsBalanced ih

/-- The value of T_RX_ACK at power-on and after a handshake is in its range (R219). -/
theorem ackTimeoutInRange_tInit : AckTimeoutInRange (BitVec.ofNat 12 Config.tInit) := by
  constructor <;> decide

/-! #### Moves of the shared operations -/

/-- A change of other registers than the slots, T_RX_ACK and UP_OUT is a move. -/
theorem requestMoves_keep {s t : State} (hup : t.upOut = s.upOut) (hslots : t.slots = s.slots)
    (htime : t.tRxAck = s.tRxAck) : RequestMoves s t :=
  .single (.keep hup (fun f => by rw [busy, busy, slotAt_congr hslots f]) (by rw [htime]; exact id))

theorem requestMoves_clearPause (s : State) : RequestMoves s (clearPause s) := requestMoves_keep rfl rfl rfl

theorem requestMoves_completeOk {s : State} {f : SeqNum} (hbusy : busy s f = true) :
    RequestMoves s (completeOk f s) := by
  have hupdate : RequestMove s { s with tRxAck := rttUpdate s.tRxAck (slotAt s f).elapsed } :=
    .keep rfl (fun _ => rfl) fun _ => rttUpdate_range _ _
  exact (Relation.ReflTransGen.single hupdate).tail (.release .ok hbusy)

/-- An operation that moves from a busy slot and keeps every other slot busy moves over a list of different
busy slots. -/
theorem requestMoves_foldl {op : SeqNum → State → State}
    (hmoves : ∀ {f s}, busy s f = true → RequestMoves s (op f s))
    (hother : ∀ {f g s}, f ≠ g → busy (op f s) g = busy s g) :
    ∀ (l : List SeqNum) (s : State), l.Nodup → (∀ f ∈ l, busy s f = true) →
      RequestMoves s (l.foldl (fun t f => op f t) s)
  | [], _, _, _ => .refl
  | f :: l, s, hnodup, hbusy => by
    obtain ⟨hf, hnodup⟩ := List.nodup_cons.1 hnodup
    obtain ⟨hbusyf, hbusy⟩ := List.forall_mem_cons.1 hbusy
    refine (hmoves hbusyf).trans (requestMoves_foldl hmoves hother l (op f s) hnodup fun g hg => ?_)
    rw [hother (ne_of_mem_of_not_mem hg hf).symm]
    exact hbusy g hg

theorem requestMoves_releaseAll (status : SeqNum → Status) (s : State) :
    RequestMoves s (releaseAll status s) :=
  requestMoves_foldl (op := fun f => release f (status f)) (fun hbusy => .single (.release _ hbusy))
    (fun hne => by simp [busy_release, hne]) _ s (busyOldestFirst_nodup s)
    fun f hf => (mem_busyOldestFirst s f).1 hf

theorem requestMoves_ackProcess (p : Config.Params) (a : SeqNum) (s : State) :
    RequestMoves s (ackProcess p a s) := by
  unfold ackProcess
  split
  next hbusy =>
    split
    · exact requestMoves_completeOk hbusy
    · exact requestMoves_foldl requestMoves_completeOk (fun hne => by simp [busy, slotAt_completeOk, hne]) _ s
        ((busyOldestFirst_nodup s).filter _)
        fun f hf => (mem_busyOldestFirst s f).1 (List.mem_of_mem_filter hf)
  next => exact requestMoves_keep rfl rfl rfl

theorem requestMoves_resume (s : State) : RequestMoves s (resume s) := by
  refine .single (.keep (by rw [resume_eq]) (fun f => ?_) (by rw [resume_eq]; exact id))
  rw [busy, busy, slotAt_resume]
  split
  next hwait => rw [hwait]; rfl
  next => rfl

theorem requestMoves_nrdyUpdate (p : Config.Params) (bit : Bit) (s : State) :
    RequestMoves s (nrdyUpdate p bit s) := by
  unfold nrdyUpdate
  split
  · split
    · exact requestMoves_keep rfl rfl rfl
    · split
      · exact (requestMoves_clearPause s).trans (requestMoves_resume _)
      · exact .refl
  · exact .refl

theorem requestMoves_enterFailed (cause : FailCause) (culprit : Option SeqNum) (s : State) :
    RequestMoves s (enterFailed cause culprit s) := by
  unfold enterFailed
  split
  · exact .refl
  · have hfailed : RequestMoves s { s with ncpState := .failed } := requestMoves_keep rfl rfl rfl
    exact ((hfailed.trans (requestMoves_releaseAll _ _)).trans (requestMoves_clearPause _)).trans
      (.single (.report nofun fun _ => rfl))

theorem requestMoves_handshakeComplete (code : Byte) (s : State) :
    RequestMoves s (handshakeComplete code s) := by
  have hpending : RequestMoves s { s with resetPending := false, resetTimer := 0 } :=
    requestMoves_keep rfl rfl rfl
  have hregisters : ∀ u : State, RequestMoves u
      { clearPause { u with txSeq := 0, rxSeq := 0, tRxAck := BitVec.ofNat 12 Config.tInit } with
        ncpState := .connected } :=
    fun u => .single (.keep rfl (fun _ => rfl) fun _ => ackTimeoutInRange_tInit)
  exact ((hpending.trans (requestMoves_releaseAll _ _)).trans (hregisters _)).tail (.report nofun fun _ => rfl)

theorem requestMoves_failHandshake (s : State) : RequestMoves s (failHandshake s) :=
  have hpending : RequestMoves s { s with resetPending := false, resetTimer := 0 } :=
    requestMoves_keep rfl rfl rfl
  hpending.tail (.report nofun fun _ => rfl)

@[simp] theorem transmitOrHold_upOut (f : SeqNum) (s : State) : (transmitOrHold f s).upOut = s.upOut := by
  rw [transmitOrHold_frame]

@[simp] theorem transmitOrHold_tRxAck (f : SeqNum) (s : State) : (transmitOrHold f s).tRxAck = s.tRxAck := by
  rw [transmitOrHold_frame]

/-- A transmission or a hold leaves its slot busy, and every other as busy as it was. -/
theorem busy_transmitOrHold (f g : SeqNum) (s : State) :
    busy (transmitOrHold f s) g = (decide (f = g) || busy s g) := by
  rw [busy, slotAt_transmitOrHold]
  by_cases hfg : f = g
  · cases s.remoteNrdy <;> simp [hfg]
  · simp [hfg, busy]

theorem busy_setSlot (f g : SeqNum) (x : Slot) (s : State) :
    busy (setSlot f x s) g = if f = g then x.state != .free else busy s g := by
  rw [busy, slotAt_setSlot]
  split <;> rfl

/-! #### Moves of the frames -/

theorem requestMoves_acceptData (P : Bytes) (s : State) : RequestMoves s (acceptData P s) :=
  have hack : RequestMoves s (emit (ackFrame (s.rxSeq + 1)) { s with rxSeq := s.rxSeq + 1 }) :=
    requestMoves_keep rfl rfl rfl
  hack.tail (.report (e := .deliver P) nofun fun _ => rfl)

theorem requestMoves_replayData (p : Config.Params) (P : Bytes) (s : State) :
    RequestMoves s (replayData p P s) := by
  have hack : RequestMoves s (emit (ackFrame s.rxSeq) s) := requestMoves_keep rfl rfl rfl
  simp only [replayData]
  split
  · exact hack.tail (.report nofun fun _ => rfl)
  · exact hack

theorem requestMoves_rejectData (s : State) : RequestMoves s (rejectData s) := requestMoves_keep rfl rfl rfl

theorem requestMoves_receiveData (p : Config.Params) (frm : SeqNum) (re : Bit) (a : SeqNum) (P : Bytes)
    (s : State) : RequestMoves s (receiveData p frm re a P s) := by
  have hack := requestMoves_ackProcess p a s
  by_cases up : linkUp s = true
  · cases h : dataClass p s.rxSeq frm re with
    | accept =>
      rw [receiveData_of_accept a P up h]
      exact hack.trans (requestMoves_acceptData P _)
    | replay =>
      rw [receiveData_of_replay a P up h]
      exact hack.trans (requestMoves_replayData p P _)
    | reject =>
      rw [receiveData_of_reject a P up h]
      exact hack.trans (requestMoves_rejectData _)
  · rw [receiveData, if_neg up]
    exact requestMoves_keep rfl rfl rfl

theorem requestMoves_receiveFrame (p : Config.Params) (F : Frame) (s : State) :
    RequestMoves s (receiveFrame p F s) := by
  have hdiag : ∀ k, RequestMoves s (diag k s) := fun k => requestMoves_keep rfl rfl rfl
  cases F with
  | data frm re a P => exact requestMoves_receiveData p frm re a P s
  | ack res nrdy a =>
    show RequestMoves s (receiveAck p nrdy a s)
    unfold receiveAck
    split
    · exact (requestMoves_ackProcess p a s).trans (requestMoves_nrdyUpdate _ _ _)
    · exact hdiag _
  | nak res nrdy a =>
    show RequestMoves s (receiveNak p nrdy a s)
    unfold receiveNak
    split
    · refine Relation.ReflTransGen.trans ?_ (requestMoves_nrdyUpdate _ _ _)
      split
      next hbusy => exact .single (.release _ hbusy)
      next => exact hdiag _
    · exact hdiag _
  | rst => exact hdiag _
  | rstack version code =>
    have hreport : RequestMoves s (report (.rstackRx code) s) := .single (.report nofun fun _ => rfl)
    refine hreport.trans ?_
    show RequestMoves _ (receiveRstack code s)
    simp only [receiveRstack]
    split
    · exact requestMoves_handshakeComplete code _
    · split
      · exact .refl
      · exact requestMoves_enterFailed _ _ _
  | error version code => exact requestMoves_enterFailed _ _ s

/-! #### Moves of the host events -/

/-- An accepted SEND takes the FREE slot TX_SEQ (43_tx_engine.md R203). -/
theorem requestMoves_acceptSend (P : Bytes) {s : State} (hfree : busy s s.txSeq = false) :
    RequestMoves s (acceptSend P s) := by
  refine .single (.accept (f := s.txSeq) hfree (by simp [acceptSend]) (fun g => ?_) (by simp [acceptSend]))
  simp only [acceptSend]
  rw [busy_transmitOrHold]
  by_cases hg : s.txSeq = g
  · simp [hg]
  · have hother := slotAt_setSlot_ne hg { slotAt s s.txSeq with payload := P, attempt := 0 } s
    simp only [hg, decide_false, Bool.false_or, busy, slotAt_report]
    exact congrArg (·.state != .free) hother

theorem requestMoves_sendRequest (p : Config.Params) (P : Bytes) (s : State) :
    RequestMoves s (sendRequest p P s) := by
  unfold sendRequest
  split
  · exact .single (.report nofun fun _ => rfl)
  next hr =>
    split
    · exact .refl
    next hheld =>
      obtain ⟨-, -, hfree⟩ := accepts_of_not_rejected_not_held hr (by simpa using hheld)
      exact requestMoves_acceptSend P hfree

theorem requestMoves_resetRequest (s : State) : RequestMoves s (resetRequest s) := by
  have hemit : ∀ u : State,
      RequestMoves u { emit .rst (clearPause u) with resetPending := true, resetTimer := 0 } := fun u =>
    requestMoves_keep rfl rfl rfl
  exact (requestMoves_releaseAll _ s).trans (hemit _)

theorem requestMoves_connectionLost (s : State) : RequestMoves s (connectionLost s) := by
  unfold connectionLost
  split
  · exact (requestMoves_failHandshake s).trans (requestMoves_enterFailed _ _ _)
  · exact requestMoves_enterFailed _ _ _

/-- A busy slot that is written and transmitted, or held, again stays busy. -/
theorem requestMoves_retry {f : SeqNum} {s : State} (x : Slot) (hbusy : busy s f = true) :
    RequestMoves s (transmitOrHold f (setSlot f x s)) := by
  refine .single (.keep (by simp) (fun g => ?_) (by simp))
  rw [busy_transmitOrHold, busy_setSlot]
  by_cases hg : f = g
  · subst hg
    simp [hbusy]
  · simp [hg]

/-- A timeout keeps its busy slot busy, or ends every request (43_tx_engine.md R208). -/
theorem requestMoves_timeout {f : SeqNum} {s : State} (hbusy : busy s f = true) :
    RequestMoves s (timeout f s) := by
  have hbackoff : RequestMoves s { s with tRxAck := backoff s.tRxAck } :=
    .single (.keep rfl (fun _ => rfl) ackTimeoutInRange_backoff)
  refine hbackoff.trans ?_
  simp only [timeout]
  split
  · exact requestMoves_retry _ hbusy
  · exact requestMoves_enterFailed _ _ _

theorem requestMoves_tickEvent (s : State) : RequestMoves s (tickEvent s) := by
  have hcount : RequestMoves s (tickTimers (tickElapsed s)) :=
    .single (.keep rfl (fun f => by rw [busy, busy, slotAt_tickTimers_tickElapsed, elapseSlot_state]) id)
  have hdeadline : ∀ u, RequestMoves u (tickResetDeadline u) := fun u => by
    unfold tickResetDeadline
    split
    · exact (requestMoves_failHandshake u).trans (requestMoves_enterFailed _ _ _)
    · exact .refl
  have hexpiry : ∀ u, RequestMoves u (tickNrdyExpiry u) := fun u => by
    unfold tickNrdyExpiry
    split
    · exact (requestMoves_clearPause u).trans (requestMoves_resume _)
    · exact .refl
  have htimeouts : ∀ u, RequestMoves u (tickTimeouts u) := fun u =>
    runTimeouts_keeps (P := RequestMoves u)
      (fun f t hlate ht => ht.trans (requestMoves_timeout (busy_of_timedOut hlate))) _ u .refl
  exact ((hcount.trans (hdeadline _)).trans (hexpiry _)).trans (htimeouts _)

theorem OnlyPipelineDiffers.requestMoves {s t : State} (h : OnlyPipelineDiffers s t) : RequestMoves s t := by
  obtain ⟨buf, discard, log, rfl⟩ := h
  exact requestMoves_keep rfl rfl rfl

/-- Whatever an event does to the requests and to T_RX_ACK, it does in elementary moves. -/
theorem requestMoves_runEvent (e : InputEvent) (s : State) : RequestMoves s (runEvent e s) := by
  cases e with
  | rxByte b =>
    obtain h | ⟨F, h⟩ := rxByte_cases Config.block b s
    · exact h.requestMoves
    · have hbuf : RequestMoves s { s with rxBuf := [] } := requestMoves_keep rfl rfl rfl
      show RequestMoves s (rxByte Config.block b s)
      rw [h]
      exact hbuf.trans (requestMoves_receiveFrame _ F _)
  | send P => exact requestMoves_sendRequest _ P s
  | cancel f =>
    show RequestMoves s (cancelRequest f s)
    unfold cancelRequest
    split
    next hbusy => exact .single (.release _ hbusy)
    next => exact requestMoves_keep rfl rfl rfl
  | resetReq => exact requestMoves_resetRequest s
  | tick => exact requestMoves_tickEvent s
  | connLost => exact requestMoves_connectionLost s

theorem requestMoves_step {s t : State} (h : step s = .next t) : RequestMoves s t := by
  obtain rfl | ⟨e, rest, rfl⟩ := step_runs_event h
  · exact .refl
  · have hinput : RequestMoves s { s with input := rest } := requestMoves_keep rfl rfl rfl
    exact hinput.trans (requestMoves_runEvent e _)

/-! #### The two invariants -/

/-- Settles O50: a step is a run of elementary moves, and each of them keeps the accounts. -/
theorem everyRequestCompletesAtMostOnce : Obligations.EveryRequestCompletesAtMostOnce := by
  unfold Obligations.EveryRequestCompletesAtMostOnce
  refine ⟨fun f => ?_, fun s t hs h => (requestMoves_step h).requestsBalanced hs⟩
  have hfree : busy State.reset f = false := by simp [busy, slotAt_reset, Slot.reset]
  rw [hfree]
  rfl

/-- Settles O49: a step is a run of elementary moves, and each of them keeps T_RX_ACK in its range. -/
theorem ackTimeoutStaysInRange : Obligations.AckTimeoutStaysInRange := by
  unfold Obligations.AckTimeoutStaysInRange
  exact ⟨rfl, fun s t hlow hhigh h => (requestMoves_step h).ackTimeoutInRange ⟨hlow, hhigh⟩⟩

end Sys2Proof.Machine
end

/-! ### Scope: the timeouts of one TICK

Part 5 of a TICK is a run over the busy slots; `Retried` says in closed form where that run stands, and both the
TICK in which every slot is retried and the one in which the link fails continue from it. -/

section
namespace Sys2Proof.Machine

/-! #### The parts of a TICK before its timeouts -/

/-- The number of a frame's attempt decides re_tx (43_tx_engine.md R205). -/
theorem slotFrame_eq (f : SeqNum) (s : State) :
    slotFrame f s =
      .data f (if 0 < (slotAt s f).attempt.toNat then 1 else 0) s.rxSeq (slotAt s f).payload := by
  by_cases h : (slotAt s f).attempt = 0
  · simp [slotFrame, h]
  · have hpos : 0 < (slotAt s f).attempt.toNat := by bv_omega
    simp only [slotFrame, h, hpos, if_true, if_false]

/-- The end of the pause after part 1 of a TICK: a slot in WAIT_TX is sent, whatever it has counted, and any
other slot has counted a millisecond (44_link_control.md R248, R249). -/
theorem resume_clearPause_tickTimers_tickElapsed {s : State} (hpause : s.remoteNrdy = true)
    (htimer : s.nrdyTimer.toNat = 999) :
    resume (clearPause (tickTimers (tickElapsed s))) = stateAtTimeouts s := by
  have hslot : ∀ f, slotAt (clearPause (tickTimers (tickElapsed s))) f = elapseSlot (slotAt s f) :=
    slotAt_tickTimers_tickElapsed s
  rw [stateAtTimeouts, if_pos ⟨hpause, htimer⟩, resume_eq]
  simp only [slotFrame_eq, hslot, elapseSlot_state, elapseSlot_attempt, elapseSlot_payload]
  ext1
  case slots =>
    refine slotVector_ext fun f => ?_
    simp only [clearPause_slots, tickTimers_tickElapsed_eq, slotVector_map, elapseSlot_state, elapseSlot_payload,
      elapseSlot_attempt]
    rfl
  all_goals rfl

/-- Away from the end of a pause a TICK only counts before its timeouts (60_exceptions.md R270). -/
theorem stateAtTimeouts_of_no_expiry {s : State} (hend : ¬(s.remoteNrdy = true ∧ s.nrdyTimer.toNat = 999)) :
    stateAtTimeouts s = tickTimers (tickElapsed s) :=
  if_neg hend

/-- When the reset deadline does not fall in a TICK, its parts 1 to 4 leave the state in which part 5 begins
(60_exceptions.md R270). -/
theorem tickEvent_eq_tickTimeouts {s : State} (hreset : s.resetPending = true → s.resetTimer.toNat + 1 < 5000)
    (hnrdy : s.remoteNrdy = true → s.nrdyTimer.toNat < 1000) :
    tickEvent s = tickTimeouts (stateAtTimeouts s) := by
  have hdeadline : tickResetDeadline (tickTimers (tickElapsed s)) = tickTimers (tickElapsed s) := by
    refine if_neg fun ⟨hpending, htimer⟩ => ?_
    have hpending : s.resetPending = true := hpending
    have htimer : 5000 ≤ (if s.resetPending then s.resetTimer + 1 else s.resetTimer).toNat := htimer
    have hbefore := hreset hpending
    rw [if_pos hpending] at htimer
    bv_omega
  have hexpiry : tickNrdyExpiry (tickTimers (tickElapsed s)) = stateAtTimeouts s := by
    by_cases hend : s.remoteNrdy = true ∧ s.nrdyTimer.toNat = 999
    · obtain ⟨hpause, htimer⟩ := hend
      rw [← resume_clearPause_tickTimers_tickElapsed hpause htimer]
      refine if_pos ⟨hpause, ?_⟩
      show 1000 ≤ (if s.remoteNrdy then s.nrdyTimer + 1 else s.nrdyTimer).toNat
      rw [if_pos hpause]
      bv_omega
    · rw [stateAtTimeouts_of_no_expiry hend]
      refine if_neg fun ⟨hpause, htimer⟩ => ?_
      have hpause : s.remoteNrdy = true := hpause
      have htimer : 1000 ≤ (if s.remoteNrdy then s.nrdyTimer + 1 else s.nrdyTimer).toNat := htimer
      have hbefore := hnrdy hpause
      rw [if_pos hpause] at htimer
      exact hend ⟨hpause, by bv_omega⟩
  rw [tickEvent, hdeadline, hexpiry]

/-! #### Slots retried -/

theorem ackTimeoutAfter_one (T : BitVec 12) : ackTimeoutAfter 1 T = backoff T := (backoff_ackTimeoutAfter 0 T).symm

/-- Only a transmission on the wire times out (43_tx_engine.md R207). -/
theorem timedOut_iff (s : State) (f : SeqNum) :
    timedOut s f = true ↔
      (slotAt s f).state = .waitAck ∧ (slotAt s f).deadline.toNat ≤ (slotAt s f).elapsed.toNat := by
  simp [timedOut]

/-- One timeout with an attempt left, whole (43_tx_engine.md R208). -/
theorem timeout_of_timedOut {s : State} {f : SeqNum} (hlate : timedOut s f = true)
    (hattempt : (slotAt s f).attempt.toNat < 3) :
    timeout f s = { s with
      tRxAck := backoff s.tRxAck
      slots := s.slots.set f.toNat (retriedSlot s 0 f)
      wireOut := s.wireOut ++ retriedWire s [f] } := by
  obtain ⟨hwait, -⟩ := (timedOut_iff s f).1 hlate
  have hcount : (slotAt s f).attempt + 1#2 ≠ 0#2 := by bv_omega
  rw [timeout_of_attempt_left hattempt]
  cases hpause : s.remoteNrdy with
  | true =>
    ext1 <;> simp [transmitOrHold, retriedSlot, retriedWire, hpause]
  | false =>
    ext1 <;> simp [transmitOrHold, retriedSlot, retriedWire, hpause, slotFrame, hcount, hwait, ackTimeoutAfter_one]

/-- The slots `done` of `u` have been retried, in their order, and `t` is the state they leave: T_RX_ACK has
doubled once a slot, and nothing else has changed but the slots themselves and WIRE_OUT (43_tx_engine.md R208,
R209). -/
structure Retried (u : State) (done : List SeqNum) (t : State) : Prop where
  frame : t = { u with
    tRxAck := ackTimeoutAfter done.length u.tRxAck
    slots := t.slots
    wireOut := u.wireOut ++ retriedWire u done }
  slots : ∀ g, slotAt t g = if g ∈ done then retriedSlot u (done.idxOf g) g else slotAt u g

theorem retried_nil (u : State) : Retried u [] u where
  frame := by simp [retriedWire]
  slots := by simp

theorem retriedWire_append (u : State) (fs gs : List SeqNum) :
    retriedWire u (fs ++ gs) = retriedWire u fs ++ retriedWire u gs := by
  cases h : u.remoteNrdy <;> simp [retriedWire, h]

/-- A retried slot is as busy as it was. -/
theorem retriedSlot_state_ne_free {u : State} {f : SeqNum} (n : Nat) (hf : timedOut u f = true) :
    (retriedSlot u n f).state ≠ .free := by
  unfold retriedSlot
  split
  · exact nofun
  · exact (busy_iff u f).1 (busy_of_timedOut hf)

section
variable {u t : State} {done : List SeqNum}

theorem Retried.tRxAck (h : Retried u done t) : t.tRxAck = ackTimeoutAfter done.length u.tRxAck := by rw [h.frame]
theorem Retried.remoteNrdy (h : Retried u done t) : t.remoteNrdy = u.remoteNrdy := by rw [h.frame]
theorem Retried.rxSeq (h : Retried u done t) : t.rxSeq = u.rxSeq := by rw [h.frame]
theorem Retried.txSeq (h : Retried u done t) : t.txSeq = u.txSeq := by rw [h.frame]
theorem Retried.ncpState (h : Retried u done t) : t.ncpState = u.ncpState := by rw [h.frame]

theorem Retried.slotAt_of_not_mem (h : Retried u done t) {f : SeqNum} (hf : f ∉ done) :
    slotAt t f = slotAt u f := by rw [h.slots, if_neg hf]

/-- A slot not retried yet times out exactly when it did at the start. -/
theorem Retried.timedOut_eq (h : Retried u done t) {f : SeqNum} (hf : f ∉ done) : timedOut t f = timedOut u f := by
  simp only [timedOut, h.slotAt_of_not_mem hf]

/-- Retrying slots that timed out keeps the list of the busy ones. -/
theorem Retried.busyOldestFirst_eq (h : Retried u done t) (hdone : ∀ f ∈ done, timedOut u f = true) :
    busyOldestFirst t = busyOldestFirst u := by
  have hbusy : ∀ f, busy t f = busy u f := fun f => by
    by_cases hf : f ∈ done
    · rw [busy_of_timedOut (hdone f hf), busy_iff, h.slots, if_pos hf]
      exact retriedSlot_state_ne_free _ (hdone f hf)
    · rw [busy, busy, h.slotAt_of_not_mem hf]
  simp only [busyOldestFirst, h.txSeq, funext hbusy]

/-- One timeout more with an attempt left (43_tx_engine.md R208). -/
theorem Retried.retry (h : Retried u done t) {f : SeqNum} (hf : f ∉ done)
    (hlate : timedOut u f = true) (hattempt : (slotAt u f).attempt.toNat < 3) :
    Retried u (done ++ [f]) (timeout f t) := by
  have hslot := h.slotAt_of_not_mem hf
  have hlate' : timedOut t f = true := (h.timedOut_eq hf).trans hlate
  have hbackoff : backoff t.tRxAck = ackTimeoutAfter (done ++ [f]).length u.tRxAck := by
    rw [h.tRxAck, backoff_ackTimeoutAfter, List.length_append, List.length_singleton]
  have hwire : t.wireOut ++ retriedWire t [f] = u.wireOut ++ retriedWire u (done ++ [f]) := by
    have hdone : t.wireOut = u.wireOut ++ retriedWire u done := by rw [h.frame]
    have hnew : retriedWire t [f] = retriedWire u [f] := by
      simp [retriedWire, h.remoteNrdy, h.rxSeq, hslot]
    rw [hdone, hnew, List.append_assoc, retriedWire_append]
  rw [timeout_of_timedOut hlate' (by rwa [hslot])]
  refine ⟨?frame, fun g => ?slots⟩
  case frame => rw [hbackoff, hwire, h.frame]
  case slots =>
    show slotAt (setSlot f (retriedSlot t 0 f) t) g = _
    by_cases hg : f = g
    · subst hg
      have hindex : (done ++ [f]).idxOf f = done.length := by simp [List.idxOf_append_of_notMem hf]
      rw [slotAt_setSlot_self, if_pos (by simp), hindex, retriedSlot, retriedSlot, hslot, h.remoteNrdy, h.tRxAck,
        ackTimeoutAfter_one, backoff_ackTimeoutAfter]
    · have hmem : g ∈ done ++ [f] ↔ g ∈ done := by simp [Ne.symm hg]
      rw [slotAt_setSlot_ne hg, h.slots]
      simp only [hmem]
      split
      next hdone => rw [List.idxOf_append_of_mem hdone]
      next => rfl

/-- The run over slots that have attempts left retries those of them that time out, in their order, and goes on
with the slots after them (R209). -/
theorem Retried.run (connected : u.ncpState = .connected) :
    ∀ (now : List SeqNum) {done : List SeqNum} {t : State} (later : List SeqNum), Retried u done t →
      (done ++ now).Nodup →
      (∀ f ∈ now, timedOut u f = true → (slotAt u f).attempt.toNat < 3) →
      ∃ t', Retried u (done ++ now.filter (timedOut u)) t' ∧
        runTimeouts (now ++ later) t = runTimeouts later t'
  | [], done, t, later, h, _, _ => ⟨t, by simpa using h, rfl⟩
  | f :: now, done, t, later, h, hnodup, hattempts => by
    have hf : f ∉ done := fun hf => (List.disjoint_of_nodup_append hnodup) hf List.mem_cons_self
    obtain ⟨hattempt, hattempts⟩ := List.forall_mem_cons.1 hattempts
    rw [List.cons_append, runTimeouts, h.timedOut_eq hf]
    by_cases hlate : timedOut u f = true
    · have hnext := h.retry hf hlate (hattempt hlate)
      have hup : (timeout f t).ncpState ≠ .failed := by simp [hnext.ncpState, connected]
      rw [if_pos hlate, if_neg hup, List.filter_cons_of_pos hlate, ← List.singleton_append, ← List.append_assoc]
      refine Retried.run connected now later hnext ?_ hattempts
      rwa [List.append_assoc, List.singleton_append]
    · rw [if_neg hlate, List.filter_cons_of_neg hlate]
      exact Retried.run connected now later h (hnodup.sublist (by simp)) hattempts

theorem failStatus_some (f g : SeqNum) :
    failStatus (some f) g = if g = f then .ackTimeout else .transportFailed := by
  simp [failStatus, eq_comm]

/-- The fourth timeout of slot f after the slots `done` have been retried: one doubling more, and every request
that was busy ends, f as the culprit (43_tx_engine.md R208, 44_link_control.md R244). -/
theorem Retried.enterFailed_eq (h : Retried u done t) (connected : u.ncpState = .connected)
    (hdone : ∀ g ∈ done, timedOut u g = true) {f : SeqNum} :
    enterFailed .ackTimeout (some f) { t with tRxAck := backoff t.tRxAck } =
      { u with
        ncpState := .failed
        remoteNrdy := false
        nrdyTimer := 0
        tRxAck := ackTimeoutAfter (done.length + 1) u.tRxAck
        slots := t.slots.map fun x => { x with state := .free }
        wireOut := u.wireOut ++ retriedWire u done
        upOut := u.upOut ++ (busyOldestFirst u).map
            (fun g => .complete g (if g = f then .ackTimeout else .transportFailed))
          ++ [.failure .ackTimeout] } := by
  have hlist : busyOldestFirst { t with tRxAck := backoff t.tRxAck } = busyOldestFirst u :=
    h.busyOldestFirst_eq hdone
  rw [enterFailed_of_connected _ _ { t with tRxAck := backoff t.tRxAck } (h.ncpState.trans connected),
    hlist, h.tRxAck, backoff_ackTimeoutAfter]
  simp only [failStatus_some]
  rw [h.frame]

/-- Where the run stands is determined by the slots retried. -/
theorem Retried.unique {t' : State} (h : Retried u done t) (h' : Retried u done t') : t = t' := by
  have hslots : t.slots = t'.slots := slots_ext fun f => by rw [h.slots, h'.slots]
  rw [h.frame, h'.frame, hslots]

end

/-! #### The timeouts of one TICK -/

theorem timedOutSlots_eq (u : State) : timedOutSlots u = (busyOldestFirst u).filter (timedOut u) := by
  rw [timedOutSlots, busyOldestFirst, List.filter_filter]
  refine List.filter_congr fun f _ => ?_
  cases hlate : timedOut u f with
  | true => simp [busy_of_timedOut hlate]
  | false => rfl

/-- When no slot times out for the fourth time, all that time out are retried (R209). -/
theorem retried_tickTimeouts {u : State} (connected : u.ncpState = .connected)
    (hattempts : ∀ f, timedOut u f = true → (slotAt u f).attempt.toNat < 3) :
    Retried u (timedOutSlots u) (tickTimeouts u) := by
  obtain ⟨t, ht, hrun⟩ := Retried.run connected (busyOldestFirst u) [] (retried_nil u)
    (by simpa using busyOldestFirst_nodup u) fun f _ => hattempts f
  rw [List.append_nil] at hrun
  rw [tickTimeouts, hrun, timedOutSlots_eq]
  exact ht

/-- Settles O44: the run over the busy slots retries those that time out and leaves the others. -/
theorem timeoutsDoubleOncePerSlot : Obligations.TimeoutsDoubleOncePerSlot := by
  unfold Obligations.TimeoutsDoubleOncePerSlot
  rintro s u hreset hnrdy hncp rfl hattempts
  have ht := retried_tickTimeouts ((stateAtTimeouts_ncpState s).trans hncp) hattempts
  refine ⟨_, congrArg Host.Outcome.next (tickEvent_eq_tickTimeouts hreset hnrdy), ht.frame, fun f => ?_⟩
  rw [ht.slots]
  simp only [mem_timedOutSlots]

/-- When one slot times out, and has an attempt left, part 5 of a TICK is its timeout. -/
theorem tickTimeouts_of_only {u : State} {f : SeqNum} (connected : u.ncpState = .connected)
    (honly : ∀ g, timedOut u g = true ↔ g = f) (hattempt : (slotAt u f).attempt.toNat < 3) :
    tickTimeouts u = timeout f u := by
  have hlist : timedOutSlots u = [f] := List.perm_singleton.1 <|
    (List.perm_ext_iff_of_nodup (timedOutSlots_nodup u) (List.nodup_singleton f)).2 fun g => by
      rw [mem_timedOutSlots, honly, List.mem_singleton]
  have hrun := retried_tickTimeouts connected fun g hg => (honly g).1 hg ▸ hattempt
  rw [hlist] at hrun
  exact hrun.unique ((retried_nil u).retry List.not_mem_nil ((honly f).2 rfl) hattempt)

/-- A slot on the wire times out in a TICK that takes its elapsed count to its deadline (43_tx_engine.md R206,
R207). -/
theorem timedOut_tickTimers_tickElapsed_iff (s : State) (f : SeqNum) :
    timedOut (tickTimers (tickElapsed s)) f = true ↔
      (slotAt s f).state = .waitAck ∧ (slotAt s f).deadline.toNat ≤ (slotAt s f).elapsed.toNat + 1 := by
  rw [timedOut_iff, slotAt_tickTimers_tickElapsed, elapseSlot_state, elapseSlot_deadline]
  refine and_congr_right fun hwait => ?_
  have hcounts : (elapseSlot (slotAt s f)).elapsed.toNat = min 0xFFFF ((slotAt s f).elapsed.toNat + 1) := by
    rw [elapseSlot, if_neg (by simp [hwait]), elapse_toNat]
  have hrange := (slotAt s f).deadline.isLt
  omega

/-- Settles O42: the next state is the state after the timeout of the one slot that is late. -/
theorem timeoutRetransmits : Obligations.TimeoutRetransmits := by
  unfold Obligations.TimeoutRetransmits
  intro s f hreset hnrdy hncp hwait hdeadline hattempt hothers
  have hend : ¬(s.remoteNrdy = true ∧ s.nrdyTimer.toNat = 999) := fun ⟨hpause, htimer⟩ => by
    have hbefore := hnrdy hpause
    omega
  have htick : tickEvent s = tickTimeouts (tickTimers (tickElapsed s)) := by
    rw [← stateAtTimeouts_of_no_expiry hend]
    exact tickEvent_eq_tickTimeouts (by simp [hreset]) fun hpause => Nat.lt_of_succ_lt (hnrdy hpause)
  have hslot := slotAt_tickTimers_tickElapsed s f
  have honly : ∀ g, timedOut (tickTimers (tickElapsed s)) g = true ↔ g = f := fun g => by
    rw [timedOut_tickTimers_tickElapsed_iff]
    refine ⟨fun ⟨hg, hlate⟩ => ?_, fun hg => hg ▸ ⟨hwait, hdeadline⟩⟩
    by_contra hne
    exact absurd (hothers g hne hg) (Nat.not_lt.2 hlate)
  have hcount : (slotAt (tickTimers (tickElapsed s)) f).attempt.toNat < 3 := by rwa [hslot, elapseSlot_attempt]
  have hexec : exec .tick s = .next (timeout f (tickTimers (tickElapsed s))) :=
    congrArg Host.Outcome.next (htick.trans (tickTimeouts_of_only hncp honly hcount))
  rw [hexec, timeout_of_timedOut ((honly f).2 rfl) hcount]
  simp only [retriedSlot, retriedWire, List.flatMap_singleton, hslot, Nat.zero_add, ackTimeoutAfter_one,
    elapseSlot_state, elapseSlot_payload, elapseSlot_attempt, elapseSlot_deadline]
  constructor
  · intro hclear
    simp [tickTimers_tickElapsed_eq, hreset, hclear, backoff, Config.tMax]
  · intro hpause
    simp [tickTimers_tickElapsed_eq, hreset, hpause, backoff, Config.tMax]

/-- The fourth timeout of a request enters FAILED, and the run stops there (43_tx_engine.md R208, R209). -/
theorem runTimeouts_of_last_attempt {s : State} {f : SeqNum} (later : List SeqNum) (hlate : timedOut s f = true)
    (hlast : (slotAt s f).attempt.toNat = 3) :
    runTimeouts (f :: later) s = enterFailed .ackTimeout (some f) { s with tRxAck := backoff s.tRxAck } := by
  rw [runTimeouts, if_pos hlate, timeout_of_last_attempt hlast, if_pos (enterFailed_ncpState _ _ _)]

/-- The busy slots before one that times out, and those after it: of the ones before, those that time out are
listed before it. -/
theorem busyOldestFirst_split {u : State} {f : SeqNum} {older later : List SeqNum}
    (hsplit : timedOutSlots u = older ++ f :: later) :
    ∃ before after, busyOldestFirst u = before ++ f :: after ∧ before.filter (timedOut u) = older := by
  rw [timedOutSlots_eq, List.filter_eq_append_iff] at hsplit
  obtain ⟨l₁, l₂, hbusy, rfl, hrest⟩ := hsplit
  obtain ⟨m₁, m₂, rfl, hnot, -, -⟩ := List.filter_eq_cons_iff.1 hrest
  refine ⟨l₁ ++ m₁, m₂, by rw [hbusy, List.append_assoc], ?_⟩
  rw [List.filter_append, List.filter_eq_nil_iff.2 hnot, List.append_nil]

/-- Settles O43: the older slots are retried, and the culprit's timeout enters FAILED, where the run stops. -/
theorem fourthTimeoutFailsTheLink : Obligations.FourthTimeoutFailsTheLink := by
  unfold Obligations.FourthTimeoutFailsTheLink
  intro s u f older later hreset hnrdy hncp hu hsplit holder hlast
  have hexec : exec .tick s = .next (tickTimeouts u) :=
    congrArg Host.Outcome.next (hu ▸ tickEvent_eq_tickTimeouts hreset hnrdy)
  have connected : u.ncpState = .connected := by rw [hu, stateAtTimeouts_ncpState, hncp]
  have hlate : ∀ g ∈ older ++ f :: later, timedOut u g = true := fun g hg =>
    (mem_timedOutSlots u g).1 (hsplit ▸ hg)
  have hf : f ∉ older := fun hf =>
    List.disjoint_of_nodup_append (hsplit ▸ timedOutSlots_nodup u) hf List.mem_cons_self
  obtain ⟨before, after, hbusy, hbefore⟩ := busyOldestFirst_split hsplit
  have hnodup : before.Nodup := (hbusy ▸ busyOldestFirst_nodup u).of_append_left
  obtain ⟨t, ht, hrun⟩ := Retried.run connected before (f :: after) (retried_nil u) hnodup fun g hg hlate =>
    holder g (hbefore ▸ List.mem_filter.2 ⟨hg, hlate⟩)
  rw [List.nil_append, hbefore] at ht
  have hfailed : tickTimeouts u = enterFailed .ackTimeout (some f) { t with tRxAck := backoff t.tRxAck } := by
    rw [tickTimeouts, hbusy, hrun]
    refine runTimeouts_of_last_attempt after ?_ ?_
    · rw [ht.timedOut_eq hf, hlate f (by simp)]
    · rw [ht.slotAt_of_not_mem hf, hlast]
  rw [ht.enterFailed_eq connected (fun g hg => hlate g (List.mem_append_left _ hg))] at hfailed
  refine ⟨_, hexec, by rw [hfailed], fun g => ?_⟩
  rw [hfailed, ← ht.slots]
  exact slotAt_map _ t g

end Sys2Proof.Machine
end

/-! ### Scope: link control

The rules of RESET_REQ, CONN_LOST and the not-ready bit, each whole. -/

section
namespace Sys2Proof.Machine

/-! #### The not-ready pause -/

/-- The end of a pause, whole: each held slot goes out with its current attempt and RX_SEQ, oldest first
(44_link_control.md R249). -/
theorem resume_clearPause_eq (s : State) :
    resume (clearPause s) =
      { s with
        remoteNrdy := false
        nrdyTimer := 0
        slots := s.slots.map fun x =>
          if x.state = .waitTx then { x with state := .waitAck, deadline := s.tRxAck, elapsed := 0 } else x
        wireOut := s.wireOut ++
          ((oldestFirst s.txSeq).filter fun f => (slotAt s f).state = .waitTx).flatMap fun f =>
            wire (.data f (if 0 < (slotAt s f).attempt.toNat then 1 else 0) s.rxSeq (slotAt s f).payload) } := by
  rw [resume_eq]
  simp only [slotFrame_eq]
  rfl

/-- Settles O29: NRDY_UPDATE reads the parameter, then the bit, then whether a pause lasts. -/
theorem notReadyBitRunsThePause : Obligations.NotReadyBitRunsThePause := by
  unfold Obligations.NotReadyBitRunsThePause
  intro p bit s
  refine ⟨fun hoff => ?ignored, fun hon hset => ?started, fun hon hclear hnone => ?idle,
    fun hon hclear hpause => ?ended⟩
  case ignored => rw [nrdyUpdate, if_neg (by simp [hoff])]
  case started => rw [nrdyUpdate, if_pos hon, if_pos hset]
  case idle => rw [nrdyUpdate, if_pos hon, if_neg (by simp [hclear]), if_neg (by simp [hnone])]
  case ended =>
    rw [nrdyUpdate, if_pos hon, if_neg (by simp [hclear]), if_pos hpause, resume_clearPause_eq]

/-! #### RESET_REQ -/

/-- The wire bytes of RST: its control byte, the CRC over it and FLAG (40_codec.md R129); no byte of them needs
an escape. -/
theorem wire_rst : wire .rst = [0xC0, 0x38, 0xBC, 0x7E] := by decide

/-- Settles O38: `resetRequest_eq` is the rule whole, with RST as its four bytes. -/
theorem resetRequestEffect : Obligations.ResetRequestEffect := by
  unfold Obligations.ResetRequestEffect
  intro s
  rw [← wire_rst]
  exact congrArg Host.Outcome.next (resetRequest_eq s)

/-! #### CONN_LOST -/

theorem exec_connLost_of_pending {s : State} (hpending : s.resetPending = true) :
    exec .connLost s = .next (enterFailed .connectionLost none (failHandshake s)) := by
  show Host.Outcome.next (connectionLost s) = _
  rw [connectionLost, if_pos hpending]

theorem exec_connLost_of_idle {s : State} (hidle : s.resetPending = false) :
    exec .connLost s = .next (enterFailed .connectionLost none s) := by
  show Host.Outcome.next (connectionLost s) = _
  rw [connectionLost, if_neg (by simp [hidle])]

/-- Settles O40: a pending handshake fails first, and ENTER_FAILED then acts in CONNECTED alone. -/
theorem connectionLostEffect : Obligations.ConnectionLostEffect := by
  unfold Obligations.ConnectionLostEffect
  intro s
  cases hpending : s.resetPending with
  | true =>
    rw [exec_connLost_of_pending hpending]
    refine ⟨fun hncp => ?_, fun hncp => ?_⟩
    · rw [enterFailed_of_failed _ _ (failHandshake s) hncp]
      rfl
    · rw [enterFailed_none_of_connected _ (s := failHandshake s) hncp]
      rfl
  | false =>
    rw [exec_connLost_of_idle hpending]
    refine ⟨fun hncp => ?_, fun hncp => ?_⟩
    · rw [enterFailed_of_failed _ _ s hncp]
      rfl
    · rw [enterFailed_none_of_connected _ hncp]
      simp [hpending]

end Sys2Proof.Machine
end

/-! ### Scope: the TICKs at which a timer of the link ends -/

section
namespace Sys2Proof.Machine

/-! #### The reset deadline -/

section
variable {s : State}

theorem busyOldestFirst_of_all_free (hfree : ∀ f, busy s f = false) : busyOldestFirst s = [] := by
  simp [busyOldestFirst, hfree]

/-- A change of the slots that keeps a FREE slot as it is does nothing when all are FREE. -/
theorem slots_map_of_all_free {g : Slot → Slot} (hg : ∀ x, x.state = .free → g x = x)
    (hfree : ∀ f, busy s f = false) : s.slots.map g = s.slots :=
  slotVector_ext fun f => by
    rw [slotVector_map]
    exact hg _ ((busy_eq_false_iff s f).1 (hfree f))

/-- With no request in flight ENTER_FAILED from CONNECTED reports the FAILURE alone
(44_link_control.md R244). -/
theorem enterFailed_of_all_free (cause : FailCause) (hncp : s.ncpState = .connected)
    (hfree : ∀ f, busy s f = false) :
    enterFailed cause none s =
      { s with
        ncpState := .failed
        remoteNrdy := false
        nrdyTimer := 0
        upOut := s.upOut ++ [.failure cause] } := by
  have hslots : (s.slots.map fun x => { x with state := .free }) = s.slots :=
    slots_map_of_all_free (fun x hx => by rw [← hx]) hfree
  rw [enterFailed_none_of_connected cause hncp, hslots, busyOldestFirst_of_all_free hfree]
  simp

/-- With no pause and no request in flight the last two parts of a TICK do nothing (60_exceptions.md R270). -/
theorem tickTimeouts_tickNrdyExpiry_of_idle (hclear : s.remoteNrdy = false) (hfree : ∀ f, busy s f = false) :
    tickTimeouts (tickNrdyExpiry s) = s := by
  rw [tickNrdyExpiry, if_neg (by simp [hclear]), tickTimeouts, busyOldestFirst_of_all_free hfree]
  rfl

/-- A TICK that brings RESET_TIMER to its end, with no pause and no request in flight, fails the handshake
(44_link_control.md R243). -/
theorem tickEvent_of_reset_deadline (hpending : s.resetPending = true) (htimer : s.resetTimer.toNat = 4999)
    (hclear : s.remoteNrdy = false) (hfree : ∀ f, busy s f = false) :
    tickEvent s = enterFailed .resetTimeout none (failHandshake s) := by
  have hslots : s.slots.map elapseSlot = s.slots := slots_map_of_all_free (fun x hx => if_pos hx) hfree
  have hcount : tickTimers (tickElapsed s) = { s with resetTimer := s.resetTimer + 1 } := by
    rw [tickTimers_tickElapsed_eq, hslots]
    simp [hpending, hclear]
  have hdeadline : tickResetDeadline { s with resetTimer := s.resetTimer + 1 } =
      enterFailed .resetTimeout none (failHandshake s) := by
    refine if_pos ⟨hpending, ?_⟩
    show 5000 ≤ (s.resetTimer + 1).toNat
    bv_omega
  rw [tickEvent, hcount, hdeadline]
  cases hncp : s.ncpState with
  | failed =>
    rw [enterFailed_of_failed _ _ (failHandshake s) hncp]
    exact tickTimeouts_tickNrdyExpiry_of_idle (s := failHandshake s) hclear hfree
  | connected =>
    rw [enterFailed_of_all_free (s := failHandshake s) _ hncp hfree]
    exact tickTimeouts_tickNrdyExpiry_of_idle rfl hfree

end

/-- Settles O45: the handshake fails, and ENTER_FAILED then acts in CONNECTED alone. -/
theorem resetDeadlineFailsTheHandshake : Obligations.ResetDeadlineFailsTheHandshake := by
  unfold Obligations.ResetDeadlineFailsTheHandshake
  intro s hpending htimer hclear hfree
  have hexec : exec .tick s = .next (enterFailed .resetTimeout none (failHandshake s)) :=
    congrArg Host.Outcome.next (tickEvent_of_reset_deadline hpending htimer hclear hfree)
  rw [hexec]
  refine ⟨fun hncp => congrArg Host.Outcome.next ?_, fun hncp => congrArg Host.Outcome.next ?_⟩
  · exact enterFailed_of_failed _ _ (failHandshake s) hncp
  · rw [enterFailed_of_all_free (s := failHandshake s) _ hncp hfree]
    simp [failHandshake, report, hclear]

/-! #### The end of the not-ready pause -/

/-- At the end of a pause a slot just sent is before its deadline, and so is every slot on the wire that was
before it by more than the millisecond counted. -/
theorem not_timedOut_stateAtTimeouts_of_pause_end {s : State} (hpause : s.remoteNrdy = true)
    (htimer : s.nrdyTimer.toNat = 999) (htime : 400 ≤ s.tRxAck.toNat) {f : SeqNum}
    (hearly : (slotAt s f).state = .waitAck → (slotAt s f).elapsed.toNat + 1 < (slotAt s f).deadline.toNat) :
    timedOut (stateAtTimeouts s) f = false := by
  have hcount : slotAt (clearPause (tickTimers (tickElapsed s))) f = elapseSlot (slotAt s f) :=
    slotAt_tickTimers_tickElapsed s f
  rw [← Bool.not_eq_true, ← resume_clearPause_tickTimers_tickElapsed hpause htimer]
  by_cases hheld : (slotAt s f).state = .waitTx
  · rw [timedOut_iff, slotAt_resume, hcount, elapseSlot_state, if_pos hheld]
    show ¬(_ ∧ s.tRxAck.toNat ≤ 0)
    omega
  · have hkept : slotAt (resume (clearPause (tickTimers (tickElapsed s)))) f =
        slotAt (tickTimers (tickElapsed s)) f := by
      rw [slotAt_resume, hcount, elapseSlot_state, if_neg hheld, slotAt_tickTimers_tickElapsed]
    rw [timedOut_iff, hkept, ← timedOut_iff, timedOut_tickTimers_tickElapsed_iff]
    exact fun ⟨hwait, hlate⟩ => absurd (hearly hwait) (Nat.not_lt.2 hlate)

/-- Settles O46: `stateAtTimeouts` is the state after the pause, and no slot of it times out. -/
theorem pauseExpiryTransmitsHeldSlots : Obligations.PauseExpiryTransmitsHeldSlots := by
  unfold Obligations.PauseExpiryTransmitsHeldSlots
  intro s hreset hpause htimer htime hearly
  have hparts : tickEvent s = tickTimeouts (stateAtTimeouts s) :=
    tickEvent_eq_tickTimeouts (by simp [hreset]) fun _ => by omega
  have htick : tickEvent s = stateAtTimeouts s := hparts.trans <| tickTimeouts_of_none fun f =>
    not_timedOut_stateAtTimeouts_of_pause_end hpause htimer htime (hearly f)
  refine congrArg Host.Outcome.next (htick.trans ?_)
  rw [stateAtTimeouts, if_pos ⟨hpause, htimer⟩]
  simp [hreset]

end Sys2Proof.Machine
end

/-! ### Scope: NCP_STATE and the FAILURE reports

Every rule but HANDSHAKE_COMPLETE is `OnlyFails`, which composes, so a rule is checked part by part:
ENTER_FAILED is the one part that does not leave `linkView` alone. -/

section
namespace Sys2Proof.Machine

/-! #### What the statement counts -/

/-- Whether an upward event is a FAILURE. -/
def isFailure : UpEvent → Bool
  | .failure _ => true
  | _ => false

/-- How many FAILURE events UP_OUT holds. -/
def failureCount (s : State) : Nat := s.upOut.countP isFailure

/-- NCP_STATE and the number of its FAILURE reports. -/
def linkView (s : State) : NcpState × Nat := (s.ncpState, failureCount s)

theorem linkView_eq_iff (s t : State) :
    linkView t = linkView s ↔ t.ncpState = s.ncpState ∧ failureCount t = failureCount s :=
  Prod.mk_inj

theorem failureCount_report (e : UpEvent) (s : State) :
    failureCount (report e s) = failureCount s + if isFailure e then 1 else 0 := by
  simp [failureCount, List.countP_append, List.countP_singleton]

/-! #### Rules that leave NCP_STATE alone and report no FAILURE -/

@[simp] theorem linkView_emit (F : Frame) (s : State) : linkView (emit F s) = linkView s := rfl
@[simp] theorem linkView_diag (k : Diag) (s : State) : linkView (diag k s) = linkView s := rfl
@[simp] theorem linkView_clearPause (s : State) : linkView (clearPause s) = linkView s := rfl

/-- A report of anything but a FAILURE. -/
theorem linkView_report {e : UpEvent} (he : isFailure e = false) (s : State) :
    linkView (report e s) = linkView s :=
  (linkView_eq_iff s (report e s)).2 ⟨rfl, by simp [failureCount_report, he]⟩

@[simp] theorem linkView_failHandshake (s : State) : linkView (failHandshake s) = linkView s :=
  linkView_report rfl { s with resetPending := false, resetTimer := 0 }

@[simp] theorem linkView_release (f : SeqNum) (status : Status) (s : State) :
    linkView (release f status s) = linkView s :=
  linkView_report rfl (setSlot f { slotAt s f with state := .free } s)

@[simp] theorem linkView_completeOk (f : SeqNum) (s : State) : linkView (completeOk f s) = linkView s :=
  linkView_release f .ok { s with tRxAck := rttUpdate s.tRxAck (slotAt s f).elapsed }

@[simp] theorem linkView_releaseAll (status : SeqNum → Status) (s : State) :
    linkView (releaseAll status s) = linkView s :=
  foldl_keeps (P := fun t => linkView t = linkView s) (op := fun f => release f (status f))
    (fun f t ht => (linkView_release f (status f) t).trans ht) _ s rfl

@[simp] theorem linkView_ackProcess (p : Config.Params) (a : SeqNum) (s : State) :
    linkView (ackProcess p a s) = linkView s := by
  unfold ackProcess
  split
  · split
    · exact linkView_completeOk _ s
    · exact foldl_keeps (P := fun t => linkView t = linkView s)
        (fun f t ht => (linkView_completeOk f t).trans ht) _ s rfl
  · exact linkView_diag _ s

@[simp] theorem linkView_resume (s : State) : linkView (resume s) = linkView s := by
  rw [resume_eq]
  rfl

@[simp] theorem linkView_nrdyUpdate (p : Config.Params) (bit : Bit) (s : State) :
    linkView (nrdyUpdate p bit s) = linkView s := by
  unfold nrdyUpdate
  split
  · split
    · rfl
    · split <;> simp
  · rfl

@[simp] theorem linkView_transmitOrHold (f : SeqNum) (s : State) :
    linkView (transmitOrHold f s) = linkView s := by
  rw [transmitOrHold_frame]
  rfl

theorem linkView_receiveData (p : Config.Params) (frm : SeqNum) (re : Bit) (a : SeqNum) (P : Bytes)
    (s : State) : linkView (receiveData p frm re a P s) = linkView s := by
  have hack := linkView_ackProcess p a s
  by_cases up : linkUp s = true
  · cases h : dataClass p s.rxSeq frm re with
    | accept =>
      rw [receiveData_of_accept a P up h]
      exact (linkView_report rfl _).trans hack
    | replay =>
      rw [receiveData_of_replay a P up h]
      simp only [replayData]
      split
      · exact (linkView_report rfl _).trans hack
      · exact hack
    | reject =>
      rw [receiveData_of_reject a P up h]
      simp [rejectData]
  · rw [receiveData, if_neg up]
    exact linkView_diag _ s

theorem linkView_receiveAck (p : Config.Params) (nrdy : Bit) (a : SeqNum) (s : State) :
    linkView (receiveAck p nrdy a s) = linkView s := by
  unfold receiveAck
  split <;> simp

theorem linkView_receiveNak (p : Config.Params) (nrdy : Bit) (a : SeqNum) (s : State) :
    linkView (receiveNak p nrdy a s) = linkView s := by
  unfold receiveNak
  split
  · rw [linkView_nrdyUpdate]
    split <;> simp
  · simp

theorem linkView_sendRequest (p : Config.Params) (P : Bytes) (s : State) :
    linkView (sendRequest p P s) = linkView s := by
  unfold sendRequest
  split
  · exact linkView_report rfl s
  · split
    · rfl
    · simp only [acceptSend, linkView_transmitOrHold]
      exact linkView_report rfl _

theorem linkView_cancelRequest (f : SeqNum) (s : State) : linkView (cancelRequest f s) = linkView s := by
  unfold cancelRequest
  split <;> simp

theorem linkView_resetRequest (s : State) : linkView (resetRequest s) = linkView s :=
  linkView_releaseAll _ s

/-! #### Rules that fail the link, or leave it alone -/

/-- What every rule but the completion of a handshake does to the link: FAILED stays, and a FAILURE is reported
for the way from CONNECTED to FAILED and for nothing else (44_link_control.md R244, R246). -/
structure OnlyFails (s t : State) : Prop where
  failed : s.ncpState = .failed → t.ncpState = .failed
  reported : failureCount t =
    failureCount s + if s.ncpState = .connected ∧ t.ncpState = .failed then 1 else 0

theorem onlyFails_of_linkView {s t : State} (h : linkView t = linkView s) : OnlyFails s t := by
  obtain ⟨hncp, hcount⟩ := (linkView_eq_iff s t).1 h
  refine ⟨fun hs => hncp.trans hs, ?_⟩
  rw [hncp, hcount]
  cases s.ncpState <;> simp

theorem OnlyFails.trans {s t u : State} (hst : OnlyFails s t) (htu : OnlyFails t u) : OnlyFails s u := by
  refine ⟨fun hs => htu.failed (hst.failed hs), ?_⟩
  rw [htu.reported, hst.reported]
  cases hs : s.ncpState with
  | failed => simp [hst.failed hs]
  | connected =>
    cases ht : t.ncpState with
    | failed => simp [htu.failed ht]
    | connected => simp

/-- ENTER_FAILED reports its FAILURE from CONNECTED, and does nothing in FAILED (R244). -/
theorem onlyFails_enterFailed (cause : FailCause) (culprit : Option SeqNum) (s : State) :
    OnlyFails s (enterFailed cause culprit s) := by
  have hfailed := enterFailed_ncpState cause culprit s
  cases hncp : s.ncpState with
  | failed => exact onlyFails_of_linkView (by rw [enterFailed_of_failed cause culprit s hncp])
  | connected =>
    refine ⟨fun _ => hfailed, ?_⟩
    have hreleased : failureCount (releaseAll (failStatus culprit) { s with ncpState := .failed }) =
        failureCount s :=
      congrArg Prod.snd (linkView_releaseAll (failStatus culprit) { s with ncpState := .failed })
    rw [if_pos ⟨hncp, hfailed⟩, enterFailed, if_neg (by simp [hncp]), failureCount_report]
    exact congrArg (· + 1) hreleased

theorem onlyFails_connectionLost (s : State) : OnlyFails s (connectionLost s) := by
  refine OnlyFails.trans (onlyFails_of_linkView ?_) (onlyFails_enterFailed _ _ _)
  split <;> simp

theorem onlyFails_timeout (f : SeqNum) (s : State) : OnlyFails s (timeout f s) := by
  have hbackoff : OnlyFails s { s with tRxAck := backoff s.tRxAck } := onlyFails_of_linkView rfl
  refine hbackoff.trans ?_
  simp only [timeout]
  split
  · exact onlyFails_of_linkView (linkView_transmitOrHold f _)
  · exact onlyFails_enterFailed _ _ _

theorem onlyFails_tickEvent (s : State) : OnlyFails s (tickEvent s) := by
  have hcount : OnlyFails s (tickTimers (tickElapsed s)) := onlyFails_of_linkView rfl
  have hdeadline : ∀ u, OnlyFails u (tickResetDeadline u) := fun u => by
    unfold tickResetDeadline
    split
    · exact (onlyFails_of_linkView (linkView_failHandshake u)).trans (onlyFails_enterFailed _ _ _)
    · exact onlyFails_of_linkView rfl
  have hexpiry : ∀ u, OnlyFails u (tickNrdyExpiry u) := fun u => by
    unfold tickNrdyExpiry
    split
    · exact onlyFails_of_linkView (linkView_resume (clearPause u))
    · exact onlyFails_of_linkView rfl
  have htimeouts : ∀ u, OnlyFails u (tickTimeouts u) := fun u =>
    runTimeouts_keeps (P := OnlyFails u) (fun f t _ ht => ht.trans (onlyFails_timeout f t)) _ u
      (onlyFails_of_linkView rfl)
  exact ((hcount.trans (hdeadline _)).trans (hexpiry _)).trans (htimeouts _)

/-- No host event brings the link up. -/
theorem onlyFails_runEvent {e : InputEvent} (he : ∀ b, e ≠ .rxByte b) (s : State) :
    OnlyFails s (runEvent e s) := by
  cases e with
  | rxByte b => exact absurd rfl (he b)
  | send P => exact onlyFails_of_linkView (linkView_sendRequest _ P s)
  | cancel f => exact onlyFails_of_linkView (linkView_cancelRequest f s)
  | resetReq => exact onlyFails_of_linkView (linkView_resetRequest s)
  | tick => exact onlyFails_tickEvent s
  | connLost => exact onlyFails_connectionLost s

/-! #### The completion of a handshake -/

/-- What the completion of a handshake does to the link: a pending one ends with the link CONNECTED, RESET_DONE
is the last report, and no FAILURE is among the reports (44_link_control.md R242). -/
structure Completes (s t : State) : Prop where
  pending : s.resetPending = true
  ended : t.resetPending = false
  connected : t.ncpState = .connected
  silent : failureCount t = failureCount s
  reported : ∃ before code, t.upOut = before ++ [.resetDone code]

theorem completes_handshakeComplete (code : Byte) {s : State} (hpending : s.resetPending = true) :
    Completes s (handshakeComplete code s) where
  pending := hpending
  ended := by rw [handshakeComplete_eq]
  connected := by rw [handshakeComplete_eq]
  silent := by
    have hreleased :=
      linkView_releaseAll (fun _ => .transportFailed) { s with resetPending := false, resetTimer := 0 }
    rw [handshakeComplete, failureCount_report]
    exact congrArg Prod.snd hreleased
  reported := by
    rw [handshakeComplete_eq]
    exact ⟨_, code, rfl⟩

/-- A frame's rule brings the link up only as an RSTACK completes a handshake (42_frame_receive.md R175). -/
theorem onlyFails_or_completes_receiveFrame (p : Config.Params) (F : Frame) (s : State) :
    OnlyFails s (receiveFrame p F s) ∨ Completes s (receiveFrame p F s) := by
  cases F with
  | data frm re a P => exact .inl (onlyFails_of_linkView (linkView_receiveData p frm re a P s))
  | ack res nrdy a => exact .inl (onlyFails_of_linkView (linkView_receiveAck p nrdy a s))
  | nak res nrdy a => exact .inl (onlyFails_of_linkView (linkView_receiveNak p nrdy a s))
  | rst => exact .inl (onlyFails_of_linkView (linkView_diag _ s))
  | rstack version code =>
    have hreport : linkView (report (.rstackRx code) s) = linkView s := linkView_report rfl s
    show OnlyFails s (receiveRstack code s) ∨ Completes s (receiveRstack code s)
    cases hpending : s.resetPending with
    | true =>
      rw [receiveRstack_of_pending code hpending]
      have hdone := completes_handshakeComplete code (s := report (.rstackRx code) s) hpending
      exact .inr { hdone with silent := hdone.silent.trans (congrArg Prod.snd hreport) }
    | false =>
      by_cases hcode : code = Config.resetSoftware
      · rw [receiveRstack_of_software hpending hcode]
        exact .inl (onlyFails_of_linkView hreport)
      · rw [receiveRstack_of_unexpected hpending hcode]
        exact .inl ((onlyFails_of_linkView hreport).trans (onlyFails_enterFailed _ _ _))
  | error version code => exact .inl (onlyFails_enterFailed _ _ s)

/-- What an instruction can do to the link (44_link_control.md R244, R246). -/
theorem exec_onlyFails_or_completes {i : Instr} {s t : State} (h : exec i s = .next t) :
    OnlyFails s t ∨ Completes s t := by
  obtain ⟨buf, discard, log, rfl⟩ | ⟨F, buf, rfl⟩ | ⟨e, he, -, rfl⟩ := exec_cases h
  · exact .inl (onlyFails_of_linkView rfl)
  · have hbuf : linkView { s with rxBuf := buf } = linkView s := rfl
    exact (onlyFails_or_completes_receiveFrame Config.block F { s with rxBuf := buf }).imp
      (onlyFails_of_linkView hbuf).trans fun hdone => { hdone with }
  · exact .inl (onlyFails_runEvent he s)

/-- Settles O53: an instruction that is not the completion of a handshake only fails the link, and the
completion reports no FAILURE. -/
theorem linkStateChangesAreReported : Obligations.LinkStateChangesAreReported := by
  unfold Obligations.LinkStateChangesAreReported
  intro i s t h
  show _ ∧ failureCount t =
    failureCount s + if s.ncpState = .connected ∧ t.ncpState = .failed then 1 else 0
  obtain hfails | hdone := exec_onlyFails_or_completes h
  · refine ⟨fun hs ht => ?_, hfails.reported⟩
    exact absurd ((hfails.failed hs).symm.trans ht) nofun
  · refine ⟨fun _ _ => ⟨hdone.pending, hdone.ended, hdone.reported⟩, ?_⟩
    rw [if_neg (by simp [hdone.connected]), hdone.silent, Nat.add_zero]

end Sys2Proof.Machine
end

/-! ### Scope: every event has its next state, and which events are enabled -/

section
namespace Sys2Proof.Machine

/-- No instruction faults and none is refused (93_implementation_defined.md). -/
theorem exec_total (i : Instr) (s : State) : ∃ t, exec i s = .next t := by
  obtain ⟨F, rfl⟩ | ⟨b, rfl⟩ | ⟨e, rfl⟩ := instr_cases i
  · exact ⟨_, exec_toInstr F s⟩
  · exact ⟨_, rfl⟩
  · exact ⟨_, exec_decodeEvent e s⟩

/-- Settles O5: a step holds its state or runs an instruction, and every instruction is a frame, a received byte
or a host event. -/
theorem everyStepEndsInNextState : Obligations.EveryStepEndsInNextState := by
  unfold Obligations.EveryStepEndsInNextState
  refine ⟨fun s => ?_, exec_total⟩
  cases hoffer : nextOffer Config.block s s.input with
  | none => exact ⟨s, step_of_nextOffer_eq_none hoffer⟩
  | some offer =>
    rw [step_of_nextOffer_eq_some hoffer]
    exact exec_total _ _

/-- When a SEND is not rejected (43_tx_engine.md R201). -/
theorem sendRejection_eq_none_iff (p : Config.Params) (P : Bytes) (s : State) :
    sendRejection p P s = none ↔
      s.ncpState = .connected ∧ s.resetPending = false ∧ ∀ most, p.maxPayload = some most → P.length ≤ most := by
  refine ⟨fun hnone => ?_, fun ⟨hncp, hpending, hlength⟩ => sendRejection_eq_none hncp hpending hlength⟩
  have hup : ¬(s.ncpState = .failed ∨ s.resetPending = true) := fun hdown => by
    simp [sendRejection_of_link_down hdown] at hnone
  obtain ⟨hncp, hpending⟩ : s.ncpState = .connected ∧ s.resetPending = false := by
    obtain ⟨hnot, hidle⟩ := not_or.1 hup
    refine ⟨?_, Bool.eq_false_iff.2 hidle⟩
    cases h : s.ncpState with
    | failed => exact absurd h hnot
    | connected => rfl
  refine ⟨hncp, hpending, fun most hmost => ?_⟩
  by_contra hlength
  simp [sendRejection_of_too_long hncp hpending hmost (Nat.lt_of_not_le hlength)] at hnone

/-- Settles O58: a SEND is enabled unless `sendRejection` is none and `sendHeld` is true. -/
theorem everyEventButAHeldSendIsEnabled : Obligations.EveryEventButAHeldSendIsEnabled := by
  unfold Obligations.EveryEventButAHeldSendIsEnabled
  intro p s
  refine ⟨fun _ => rfl, fun _ => rfl, rfl, rfl, rfl, fun P => ?_⟩
  have hsend : enabled p s (.send P) = false ↔ sendRejection p P s = none ∧ sendHeld s = true := by
    simp [enabled]
  rw [hsend, sendRejection_eq_none_iff, sendHeld_iff, and_assoc, and_assoc]

end Sys2Proof.Machine
end

/-! ### Scope: the handshake -/

section
namespace Sys2Proof.Machine

/-- Settles O39: RESET_REQ frees every slot, so the completion of the handshake after it releases none. -/
theorem handshakeBringsTheLinkUp : Obligations.HandshakeBringsTheLinkUp := by
  unfold Obligations.HandshakeBringsTheLinkUp
  intro s code
  have hpending : (resetRequest s).resetPending = true := by rw [resetRequest_eq]
  have hfree : ∀ f, busy (report (.rstackRx code) (resetRequest s)) f = false := fun f => by
    rw [busy_eq_false_iff, slotAt_report]
    exact slotAt_state_of_slots_freed (by rw [resetRequest_eq]) f
  refine ⟨resetRequest s, handshakeComplete code (report (.rstackRx code) (resetRequest s)), rfl, ?_,
    link_down_of_resetPending hpending, ?_⟩
  · rw [exec_rstack_of_ashVersion, receiveRstack_of_pending code hpending]
  · rw [handshakeComplete_eq, busyOldestFirst_of_all_free hfree]
    refine ⟨rfl, rfl, rfl, rfl, fun f => ?_, ?_⟩
    · exact (busy_eq_false_iff _ f).2 (slotAt_state_of_slots_freed rfl f)
    · simp [resetRequest_eq]

end Sys2Proof.Machine
end

/-! ### Scope: TICKs one after another, until a request is over

Outside a pause every TICK spends one of the milliseconds that a request has left: what is left of its deadline
and a full T_MAX for each attempt to come. -/

section
namespace Sys2Proof.Machine

/-! #### One TICK -/

/-- Settles O41: no timer of the link is at its end, and part 5 of the TICK finds no slot past its deadline. -/
theorem quietTickCounts : Obligations.QuietTickCounts := by
  unfold Obligations.QuietTickCounts
  intro s hreset hnrdy hearly
  have hend : ¬(s.remoteNrdy = true ∧ s.nrdyTimer.toNat = 999) := fun ⟨hpause, htimer⟩ => by
    have hbefore := hnrdy hpause
    omega
  have hnone : ∀ f, timedOut (tickTimers (tickElapsed s)) f = false := fun f => by
    rw [← Bool.not_eq_true, timedOut_tickTimers_tickElapsed_iff]
    exact fun ⟨hwait, hlate⟩ => absurd (hearly f hwait) (Nat.not_lt.2 hlate)
  refine congrArg Host.Outcome.next ?_
  calc tickEvent s
      = tickTimeouts (stateAtTimeouts s) :=
        tickEvent_eq_tickTimeouts hreset fun hpause => Nat.lt_of_succ_lt (hnrdy hpause)
    _ = tickTimeouts (tickTimers (tickElapsed s)) := by rw [stateAtTimeouts_of_no_expiry hend]
    _ = tickTimers (tickElapsed s) := tickTimeouts_of_none hnone
    _ = _ := tickTimers_tickElapsed_eq s

/-- At most how many TICKs the request in a slot on the wire still has: until its deadline, and a T_MAX for
each attempt that it has left (43_tx_engine.md R208, 60_exceptions.md R271). -/
def ticksLeft (x : Slot) : Nat := (3 - x.attempt.toNat) * 3200 + (x.deadline.toNat - x.elapsed.toNat)

theorem ticksLeft_le {x : Slot} (h : AckTimeoutInRange x.deadline) : ticksLeft x ≤ 12800 := by
  obtain ⟨-, hhigh⟩ := h
  rw [ticksLeft]
  omega

/-- A slot on the wire counts a millisecond towards its deadline. -/
theorem ticksLeft_elapseSlot_lt {x : Slot} (hwait : x.state = .waitAck) (htime : OnTime x) :
    ticksLeft (elapseSlot x) < ticksLeft x := by
  have hbefore := htime hwait
  have hcount : (elapseSlot x).elapsed.toNat = min 0xFFFF (x.elapsed.toNat + 1) := by
    rw [elapseSlot, if_neg (by simp [hwait]), elapse_toNat]
  have hrange := x.deadline.isLt
  rw [ticksLeft, ticksLeft, hcount, elapseSlot_attempt, elapseSlot_deadline]
  omega

theorem ackTimeoutAfter_succ_le (n : Nat) (T : BitVec 12) : (ackTimeoutAfter (n + 1) T).toNat ≤ 3200 := by
  rw [← backoff_ackTimeoutAfter, backoff_toNat]
  exact Nat.min_le_left _ _

/-- The attempt that a retried slot spends was worth as much as its new deadline can be. -/
theorem ticksLeft_retriedSlot_le {u : State} (hclear : u.remoteNrdy = false) (n : Nat) {f : SeqNum}
    (hattempt : (slotAt u f).attempt.toNat < 3) : ticksLeft (retriedSlot u n f) ≤ ticksLeft (slotAt u f) := by
  have hdeadline := ackTimeoutAfter_succ_le n u.tRxAck
  have hcount : ((slotAt u f).attempt + 1).toNat = (slotAt u f).attempt.toNat + 1 := by bv_omega
  rw [retriedSlot, if_neg (by simp [hclear]), ticksLeft, ticksLeft]
  dsimp only
  rw [hcount]
  omega

/-- Either every slot that times out has an attempt left, or one is the first that has none. -/
theorem attempts_left_or_first_without (u : State) :
    (∀ g, timedOut u g = true → (slotAt u g).attempt.toNat < 3) ∨
      ∃ older g later, timedOutSlots u = older ++ g :: later ∧
        (∀ h ∈ older, (slotAt u h).attempt.toNat < 3) ∧ (slotAt u g).attempt.toNat = 3 := by
  have hrange : ∀ g, ¬(slotAt u g).attempt.toNat = 3 → (slotAt u g).attempt.toNat < 3 := fun g _ => by omega
  cases hfind : (timedOutSlots u).find? fun g => decide ((slotAt u g).attempt.toNat = 3) with
  | none =>
    refine .inl fun g hg => hrange g ?_
    simpa using List.find?_eq_none.1 hfind g ((mem_timedOutSlots u g).2 hg)
  | some g =>
    obtain ⟨hlast, older, later, hsplit, holder⟩ := List.find?_eq_some_iff_append.1 hfind
    exact .inr ⟨older, g, later, hsplit, fun h hh => hrange h (by simpa using holder h hh), by simpa using hlast⟩

/-- What a TICK does to a safe link without a pause: it keeps it so, and a request that is not over then has
spent a millisecond. -/
structure Spends (s t : State) (f : SeqNum) : Prop where
  safe : LinkSafe [] 5000 1000 t
  clear : t.remoteNrdy = false
  input : t.input = s.input
  spent : busy t f = true → ticksLeft (slotAt t f) < ticksLeft (slotAt s f)

/-- Each slot that is busy without a pause is on the wire (10_state.md R30). -/
theorem LinkSafe.waitAck_of_busy {late : List SeqNum} {resetEnd nrdyEnd : Nat} {s : State}
    (hs : LinkSafe late resetEnd nrdyEnd s) (hclear : s.remoteNrdy = false) {f : SeqNum}
    (hbusy : busy s f = true) : (slotAt s f).state = .waitAck := by
  have hheld := (hs.slotFits f).heldPaused
  have hnot := (busy_iff s f).1 hbusy
  cases hstate : (slotAt s f).state with
  | free => exact absurd hstate hnot
  | waitTx => simp [hheld hstate] at hclear
  | waitAck => rfl

/-- Without a pause a TICK ends the request or spends one of its milliseconds (60_exceptions.md R271). -/
theorem LinkSafe.tick_spends {s : State} (hs : LinkSafe [] 5000 1000 s) (hclear : s.remoteNrdy = false)
    {f : SeqNum} (hbusy : busy s f = true) : ∃ t, exec .tick s = .next t ∧ Spends s t f := by
  have hwait := hs.waitAck_of_busy hclear hbusy
  obtain ⟨hncp, hpending⟩ : s.ncpState = .connected ∧ s.resetPending = false := by
    simpa [linkUp] using (hs.slotFits f).busyUp ((busy_iff s f).1 hbusy)
  have hreset : s.resetPending = true → s.resetTimer.toNat + 1 < 5000 := by simp [hpending]
  have hnrdy : s.remoteNrdy = true → s.nrdyTimer.toNat < 1000 := by simp [hclear]
  have hcount : stateAtTimeouts s = tickTimers (tickElapsed s) := stateAtTimeouts_of_no_expiry (by simp [hclear])
  have hclear' : (stateAtTimeouts s).remoteNrdy = false := by rw [hcount]; exact hclear
  have hinput : (stateAtTimeouts s).input = s.input := by rw [hcount]; rfl
  have hslot : slotAt (stateAtTimeouts s) f = elapseSlot (slotAt s f) := by
    rw [hcount, slotAt_tickTimers_tickElapsed]
  have hless : ticksLeft (slotAt (stateAtTimeouts s) f) < ticksLeft (slotAt s f) :=
    hslot ▸ ticksLeft_elapseSlot_lt hwait (hs.onTime f List.not_mem_nil)
  have hsafe : ∀ t, exec .tick s = .next t → LinkSafe [] 5000 1000 t := fun t ht =>
    Host.Outcome.next.inj ht ▸ hs.tickEvent
  obtain hattempts | ⟨older, g, later, hsplit, holder, hlast⟩ := attempts_left_or_first_without (stateAtTimeouts s)
  · obtain ⟨t, ht, hframe, hslots⟩ := timeoutsDoubleOncePerSlot s _ hreset hnrdy hncp rfl hattempts
    refine ⟨t, ht, hsafe t ht, by rw [hframe]; exact hclear', by rw [hframe]; exact hinput, fun _ => ?_⟩
    rw [hslots]
    split
    next hlate => exact (ticksLeft_retriedSlot_le hclear' _ (hattempts f hlate)).trans_lt hless
    next => exact hless
  · obtain ⟨t, ht, hframe, hslots⟩ :=
      fourthTimeoutFailsTheLink s _ g older later hreset hnrdy hncp rfl hsplit holder hlast
    refine ⟨t, ht, hsafe t ht, by rw [hframe], by rw [hframe]; exact hinput, fun hb => ?_⟩
    exact absurd (by rw [hslots]) ((busy_iff t f).1 hb)

/-! #### A run of TICKs -/

/-- A TICK at the head of the offers is what the step runs. -/
theorem step_of_tick_offered {s : State} {rest : List InputEvent} (h : s.input = .tick :: rest) :
    step s = exec .tick { s with input := rest } :=
  step_of_nextOffer_eq_some (by rw [h]; rfl)

/-- A request that has at most n milliseconds left is over after at most n TICKs. -/
theorem request_ends_of_ticksLeft_le (f : SeqNum) :
    ∀ (n : Nat) (s : State), LinkSafe [] 5000 1000 s → s.remoteNrdy = false →
      s.input = List.replicate n .tick → (busy s f = true → ticksLeft (slotAt s f) ≤ n) →
      ∃ k t, k ≤ n ∧ runSteps k s = .next t ∧ busy t f = false
  | n, s, hs, hclear, hinput, hleft => by
    cases hbusy : busy s f with
    | false => exact ⟨0, s, Nat.zero_le n, runSteps_zero s, hbusy⟩
    | true =>
      have hleft := hleft hbusy
      cases n with
      | zero =>
        have hbefore := hs.onTime f List.not_mem_nil (hs.waitAck_of_busy hclear hbusy)
        rw [ticksLeft] at hleft
        omega
      | succ n =>
        obtain ⟨t, ht, hspends⟩ := (hs.with_input (List.replicate n .tick)).tick_spends hclear hbusy
        have hstep : step s = .next t := (step_of_tick_offered hinput).trans ht
        obtain ⟨k, t', hk, hrun, hfree⟩ := request_ends_of_ticksLeft_le f n t hspends.safe hspends.clear
          hspends.input fun hb => Nat.le_of_lt_succ ((hspends.spent hb).trans_le hleft)
        exact ⟨k + 1, t', Nat.succ_le_succ hk, (runSteps_succ_of_next k hstep).trans hrun, hfree⟩

/-- Settles O56: a request has at most four times T_MAX left, and each TICK spends one millisecond of it. -/
theorem requestEndsWithin12800Ticks : Obligations.RequestEndsWithin12800Ticks := by
  unfold Obligations.RequestEndsWithin12800Ticks
  intro s f hsafe hclear
  obtain ⟨hs, -⟩ := (safe_iff s).1 hsafe
  refine request_ends_of_ticksLeft_le f 12800 _ (hs.with_input _) hclear rfl fun hbusy => ?_
  exact ticksLeft_le ((hs.slotFits f).deadlineRange (hs.waitAck_of_busy hclear hbusy))

end Sys2Proof.Machine
end
